-- ==== Sys2Proof/Word.lean ====
section
/-! DEFINITION. The byte, numbers that saturate, big-endian fields, and fixed tables indexed by Fin. -/

namespace Sys2Proof

/-- One byte of a frame, a payload or a nonvolatile slot (R177). -/
abbrev Byte := BitVec 8

/-- A slot of the backplane, which is also the address of the probe seated in it (spec/00, Description). -/
abbrev Slot := Fin 20

/-- A lane of a slot connector (spec/00, Description). -/
abbrev Lane := Fin 48

/-- An index of the link map (R36). -/
abbrev LinkIx := Fin 480

/-- A leg index: link index times 2 plus direction (R37). -/
abbrev LegIx := Fin 960

/-- A slot of the nonvolatile store. Map generation slot n holds generation n + 1 (R164). -/
abbrev NvIx := Fin 4

/-- A byte holding a small number. -/
def byteOf (n : Nat) : Byte := BitVec.ofNat 8 n

/-- A fixed number of like things. -/
abbrev Table (α : Type) (n : Nat) := Vector α n

/-- The same thing in every place. -/
def Table.fill (n : Nat) (a : α) : Table α n := Vector.replicate n a

/-- What stands in a place. -/
def Table.at (t : Table α n) (i : Fin n) : α := t[i.val]

/-- Replace what stands in one place. -/
def Table.put (t : Table α n) (i : Fin n) (a : α) : Table α n := t.set i.val a

/-- Change what stands in one place. -/
def Table.change (t : Table α n) (i : Fin n) (f : α → α) : Table α n := t.put i (f (t.at i))

/-- Change every place alike. -/
def Table.each (f : α → β) (t : Table α n) : Table β n := ⟨⟨t.toList.map f⟩, by simp⟩

/-- Every place with its index, in ascending order. -/
def Table.indexed (t : Table α n) : List (Fin n × α) := (List.finRange n).zip t.toList

/-- The table whose places are given by a function of the index. -/
def Table.tabulate (f : Fin n → α) : Table α n := ⟨⟨(List.finRange n).map f⟩, by simp⟩

end Sys2Proof
end

