-- ==== Sys2Proof/Syntax.lean ====
section
/-! DEFINITION. The commands of the block: one constructor per row of spec/opcode_table.json. -/

namespace Sys2Proof

/-- A byte of the nonvolatile store that no longer holds what was written, found at a power-up
(R175, log entry 12). -/
structure NvDecay where
  /-- The slot is a certificate slot; otherwise a map generation slot. -/
  certificate : Bool
  slot : NvIx
  offset : Nat
  byte : Byte
deriving DecidableEq, Repr

/-- The commands the block takes, one per row of the table. A request carries its header byte (priority
times 32 plus address, R177) and its payload; times are in whole microseconds, rounded down. -/
inductive Instr where
  /-- START_MARK (R3): a dominant pulse of 30 us to under 300 us has ended. -/
  | startMark
  /-- END_OF_DATA (R4): 30 us have passed without a dominant edge. -/
  | endOfData
  /-- NOISE_EVENT (R8): a dominant pulse of 1 us to under 2 us has ended. -/
  | noiseEvent
  /-- BREAK (R9): a dominant level reaches 300 us. -/
  | lineBreak
  /-- BREAK_END (R9): the line turns recessive before 20 ms. -/
  | breakEnd
  /-- STUCK (R10): a dominant level reaches 20 ms. -/
  | stuck
  /-- STUCK_CLEAR (R11): the line has been recessive for 1 ms. -/
  | stuckClear
  /-- REPLY_START (R15): 10 us after end-of-data; the level the part then finds. -/
  | replyStart (dominant : Bool)
  /-- REPLY_COLLISION (R16): the line is dominant at a collision check point. -/
  | replyCollision
  /-- REPLY_COMPLETE (R15): the last slot of the reply ends; the level then present (R7). -/
  | replyComplete (dominant : Bool)
  /-- END_OF_FRAME (R7): 50 us of recessive line after the reply. -/
  | endOfFrame
  /-- UNKNOWN_KIND (R12): a frame whose kind byte names no request kind. -/
  | unknownKind (header kind : Byte) (payload : List Byte)
  /-- ENROL (R22). -/
  | enrol (header : Byte) (payload : List Byte)
  /-- LEAVE (R27). -/
  | leave (header : Byte) (payload : List Byte)
  /-- STATUS (R160). -/
  | status (header : Byte) (payload : List Byte)
  /-- IDENT (R34). -/
  | ident (header : Byte) (payload : List Byte)
  /-- ARM (R32). -/
  | arm (header : Byte) (payload : List Byte)
  /-- PARAM_SET (R73). -/
  | paramSet (header : Byte) (payload : List Byte)
  /-- PARAM_GET (R75). -/
  | paramGet (header : Byte) (payload : List Byte)
  /-- MAP_WRITE (R41). -/
  | mapWrite (header : Byte) (payload : List Byte)
  /-- MAP_READ (R46). -/
  | mapRead (header : Byte) (payload : List Byte)
  /-- MAP_VALIDATE (R48). -/
  | mapValidate (header : Byte) (payload : List Byte)
  /-- SCAN_COMPLETE (R50): the validation scan finishes. -/
  | scanComplete
  /-- MAP_BURN (R167). -/
  | mapBurn (header : Byte) (payload : List Byte)
  /-- BURN_COMPLETE (R169): the burn completes; the bytes that read back otherwise than written. -/
  | burnComplete (flaws : List (Nat × Byte))
  /-- CERT_COMMIT (R170). -/
  | certCommit (header : Byte) (payload : List Byte)
  /-- CERT_WRITE_COMPLETE (R171): the write completes; the bytes that read back otherwise than written. -/
  | certWriteComplete (flaws : List (Nat × Byte))
  /-- CERT_READ (R173). -/
  | certRead (header : Byte) (payload : List Byte)
  /-- CAMPAIGN_START (R59). -/
  | campaignStart (header : Byte) (payload : List Byte)
  /-- CAMPAIGN_PAUSE (R62). -/
  | campaignPause (header : Byte) (payload : List Byte)
  /-- CAMPAIGN_RESUME (R63). -/
  | campaignResume (header : Byte) (payload : List Byte)
  /-- CAMPAIGN_ABORT (R64). -/
  | campaignAbort (header : Byte) (payload : List Byte)
  /-- RESTART (R77). -/
  | restart (header : Byte) (payload : List Byte)
  /-- FETCH (R100). -/
  | fetch (header : Byte) (payload : List Byte)
  /-- REPORT (R107). -/
  | report (header : Byte) (payload : List Byte)
  /-- RESULT_READ (R153). -/
  | resultRead (header : Byte) (payload : List Byte)
  /-- FINDING_READ (R159). -/
  | findingRead (header : Byte) (payload : List Byte)
  /-- PRESENCE_SEATED (R20): PRESn has stayed low for 10 ms. -/
  | presenceSeated (slot : Slot)
  /-- PRESENCE_LOSS (R21): PRESn has stayed high for 10 ms. -/
  | presenceLoss (slot : Slot)
  /-- PLAN_END (R91): the plan build finishes. -/
  | planEnd
  /-- WAIT_EXPIRY (R69). -/
  | waitExpiry
  /-- ANNOUNCE_END (R102). -/
  | announceEnd
  /-- PHASE1_END (R104). -/
  | phase1End
  /-- GAP_END (R104). -/
  | gapEnd
  /-- PHASE2_END (R107). -/
  | phase2End
  /-- REPORT_DEADLINE (R113). -/
  | reportDeadline
  /-- GRACE_END (R114). -/
  | graceEnd
  /-- VOID_SETTLE_END (R118). -/
  | voidSettleEnd
  /-- RSENSE_DEPARTURE (R140): the comparator output becomes below (true) or above (false). -/
  | rsenseDeparture (below : Bool)
  /-- SAG_FILTER_EXPIRY (R141). -/
  | sagFilterExpiry
  /-- REFCLK_EDGE (R146). -/
  | refclkEdge
  /-- CLOCK_LOSS (R147). -/
  | clockLoss
  /-- RETURN_TIMER_EXPIRY (R148). -/
  | returnTimerExpiry
  /-- LAMP_BLINK (R71). -/
  | lampBlink
  /-- POWER_RESET (R76): power-on is complete; the level then on SL, whether nRESET is still low, and
  the bytes of the nonvolatile store that no longer hold what was written. -/
  | powerReset (slDominant nresetLow : Bool) (decay : List NvDecay)
  /-- PIN_RESET (R76): nRESET returns high; the level then on SL. -/
  | pinReset (slDominant : Bool)
  /-- BIT_PULSE (R3): a dominant pulse of 2 us to under 30 us has ended; its width and the time from the
  leading edge of the previous bit slot to its own. -/
  | bitPulse (width spacing : Nat)
  /-- PRESENCE_DEPARTURE (R20): the level on PRESn becomes low (true) or high (false). -/
  | presenceDeparture (slot : Slot) (low : Bool)
  /-- STUCK_WAIT_RESTART (R11): while STUCK, an edge of SL: the leading edge of a dominant pulse of 1 us or longer, or
  the return to recessive. Both edges of a pulse are told, each at its own instant (DESIGN CHOICE, log entry 23). -/
  | stuckWaitRestart
  /-- NRESET_ASSERTED (R76): nRESET has been low for 1 us. -/
  | nresetAsserted
  /-- DOMINANT_EDGE_AFTER_REPLY (R7): a dominant edge before end-of-frame. -/
  | dominantEdgeAfterReply
deriving DecidableEq, Repr

/-- The request kinds (R178). -/
inductive RequestKind where
  | enrol | leave | status | ident | arm | paramSet | paramGet
  | mapWrite | mapRead | mapValidate | mapBurn
  | campaignStart | campaignPause | campaignResume | campaignAbort
  | fetch | report | resultRead | findingRead | certCommit | certRead | restart
deriving DecidableEq, Repr

end Sys2Proof
end

