-- ==== Sys2Proof/Decode.lean ====
section
/-! DEFINITION. Recognising a request by its kind byte (R178), and the command a table word spells. -/

namespace Sys2Proof

/-- Every request kind, in the order of R178's table. -/
def RequestKind.all : List RequestKind :=
  [.enrol, .leave, .status, .ident, .arm, .paramSet, .paramGet, .mapWrite, .mapRead, .mapValidate,
   .mapBurn, .campaignStart, .campaignPause, .campaignResume, .campaignAbort, .fetch, .report,
   .resultRead, .findingRead, .certCommit, .certRead, .restart]

/-- The kind value of a request kind (R178). -/
def RequestKind.byte : RequestKind → Byte
  | .enrol => 0x01#8
  | .leave => 0x02#8
  | .status => 0x03#8
  | .ident => 0x04#8
  | .arm => 0x05#8
  | .paramSet => 0x10#8
  | .paramGet => 0x11#8
  | .mapWrite => 0x20#8
  | .mapRead => 0x21#8
  | .mapValidate => 0x22#8
  | .mapBurn => 0x23#8
  | .campaignStart => 0x30#8
  | .campaignPause => 0x31#8
  | .campaignResume => 0x32#8
  | .campaignAbort => 0x33#8
  | .fetch => 0x40#8
  | .report => 0x41#8
  | .resultRead => 0x50#8
  | .findingRead => 0x51#8
  | .certCommit => 0x60#8
  | .certRead => 0x61#8
  | .restart => 0x70#8

/-- The request kind a kind byte names, if it names one (R12, R178). -/
def RequestKind.ofByte (b : Byte) : Option RequestKind :=
  RequestKind.all.find? (fun k => k.byte == b)

/-- The command that a word of the table's bits spells. No row of spec/opcode_table.json gives bits (every
row's "fields" is empty and none has "fixed"), so no word spells a command. -/
def decodeTableWord (_nbits _w : Nat) : Option Instr := none

end Sys2Proof
end

