-- ==== Sys2Proof/Config.lean ====
section
/-! DEFINITION. What the part fixes (codes and fixed times) and the one value the spec leaves open. -/

namespace Sys2Proof.Config

/-- Vendor code of IDENT (R179). -/
def vendorCode : Nat := 0x0A6D

/-- Part code of IDENT (R179). -/
def partCode : Nat := 0x2410

/-- Revision of IDENT (R179). -/
def revision : Nat := 1

/-- The running time of a presence filter: 10 ms (R20). -/
def presenceMicros : Nat := 10000

/-- The silence after which a takeover is admitted: 10 s (R24, R26). -/
def silenceMicros : Nat := 10000000

/-- Half a period of the LRUN blink: 500 ms (R71). -/
def blinkMicros : Nat := 500000

/-- The recessive time that clears a stuck line: 1 ms (R11). -/
def stuckClearMicros : Nat := 1000

/-- The gap between REFCLK edges that is a clock loss, in microseconds (R146). -/
def clockGapMicros : Nat := 20

/-- FREE VALUE (log entry 2): which place the k-th simultaneous event takes. The spec lets events of one
instant be taken in either order (R69, R86, R101, R144, R155), so nothing constrains this. -/
opaque arrivalOrder : Nat → Nat

end Sys2Proof.Config
end

