-- ==== Sys2Proof/Machine/Blocks.lean ====
section
/-! DEFINITION. The state each of the twelve blocks holds, as plain data, block by block. Times remaining
are in microseconds; a stopped timer is none. -/

namespace Sys2Proof.Machine

/-! ## Service Line Port -/

/-- The line states (R2, R7, R9, R10; the table after R11). -/
inductive LineState where
  | idle | receiving | replying | broken | stuck
deriving DecidableEq, Repr

/-- How far the reply of the frame in hand has come (R7, R15): none outside REPLYING; due before the reply
starts; sending; complete while end-of-frame is awaited. -/
inductive ReplyPhase where
  | none | due | sending | complete
deriving DecidableEq, Repr

/-- One pulse the part drives on SL: dominant and then recessive, in microseconds (R1, R15). -/
structure Pulse where
  dominant : Nat
  recessive : Nat
deriving DecidableEq, Repr

/-- The request kinds an arm can name (R31). -/
inductive ArmKind where
  | mapBurn | certCommit | restart
deriving DecidableEq, Repr

/-- The state of the Service Line Port (chapter 1). -/
structure Port where
  line : LineState
  /-- line state just before the last start mark (R3) -/
  lineAtStart : LineState
  /-- whole bytes received, oldest first (R3) -/
  rxBytes : List Byte
  /-- bits of the byte being assembled, first received first (R3) -/
  rxBits : List Bool
  /-- reply code, length, payload, check byte (R14) -/
  reply : List Byte
  replyPhase : ReplyPhase
  /-- the pulses of the reply being sent (R1, R15) -/
  tx : List Pulse
  /-- the arm record: live with its kind, or not live (R31) -/
  arm : Option ArmKind
  checkErrors : Nat
  framingErrors : Nat
  noiseEvents : Nat
  breaks : Nat
  collisions : Nat
  lineFaults : Nat
  /-- the 1 ms wait that clears a stuck line (R11) -/
  stuckWait : Option Nat
  /-- the line was dominant at the end of a reset and that level is still being measured (R18); DESIGN CHOICE (log
  entry 26): the line state is then IDLE -/
  levelFromReset : Bool
deriving DecidableEq, Repr

/-! ## Node Table -/

/-- Node states (R19). -/
inductive NodeState where
  | absent | active | lapsed
deriving DecidableEq, Repr

/-- A node record (R19); its address and role are fixed by its place in the table. -/
structure NodeRecord where
  state : NodeState
  channels : Option Nat
  misses : Nat
  fetchComplete : Bool
  cursor : Nat
deriving DecidableEq, Repr

/-- A presence filter and the level on its pin (R20). -/
structure PresenceFilter where
  /-- the level on PRESn is low -/
  low : Bool
  /-- the filtered state is SEATED -/
  seated : Bool
  running : Option Nat
deriving DecidableEq, Repr

/-- The state of the Node Table (chapter 2). -/
structure NodeTable where
  probes : Table NodeRecord 20
  station : NodeRecord
  holder : Option Nat
  /-- station silence timer, held at 10 s (R26) -/
  silence : Nat
  presence : Table PresenceFilter 20
deriving DecidableEq, Repr

/-! ## Link Map Store -/

/-- A lane end: one contact pair of one slot connector (chapter 3.1). -/
structure LaneEnd where
  slot : Slot
  lane : Lane
deriving DecidableEq, Repr

/-- Direction sets of a link (R36). -/
inductive DirSet where
  | ab | ba | both
deriving DecidableEq, Repr

/-- A link record (R36). -/
structure LinkRecord where
  inUse : Bool
  endA : LaneEnd
  endB : LaneEnd
  cls : Fin 4
  dirs : DirSet
deriving DecidableEq, Repr

/-- Map status (R47). -/
inductive MapStatus where
  | edited | checking | valid | faulty
deriving DecidableEq, Repr

/-- Which end of a link (R51). -/
inductive EndName where
  | a | b
deriving DecidableEq, Repr

/-- The validation error record (R51). -/
inductive ValError where
  | none
  | sameSlot (link : LinkIx)
  | doubleEnd (link : LinkIx) (which : EndName) (other : LinkIx)
  | empty
deriving DecidableEq, Repr

/-- The state of the Link Map Store (chapter 3). An origin n stands for generation n + 1 (R164). -/
structure MapStore where
  links : Table LinkRecord 480
  status : MapStatus
  error : ValError
  /-- one entry for each lane end, at slot times 48 plus lane; none is FREE (R53) -/
  occupancy : Table (Option LinkIx) 960
  origin : Option NvIx
  inUse : Nat
deriving DecidableEq, Repr

/-! ## Campaign Controller -/

/-- Campaign states (R57). -/
inductive CampaignState where
  | idle | running | waiting | paused | done | aborted
deriving DecidableEq, Repr

/-- The pause-cause set (R65). -/
structure PauseCauses where
  station : Bool
  rail : Bool
  line : Bool
deriving DecidableEq, Repr

/-- Overall result (R57, R70). -/
inductive Overall where
  | none | good | bad
deriving DecidableEq, Repr

/-- Reset kinds (R76). -/
inductive ResetKind where
  | power | pin | restart
deriving DecidableEq, Repr

/-- The thresholds of one class (R72). -/
structure Thresholds where
  tOpen : Nat
  tPass : Nat
  tIso : Nat
  eMax : Nat
deriving DecidableEq, Repr

/-- The parameter set (R72): P1 to P16 at places 0 to 15, and the thresholds of the four classes. -/
structure Params where
  general : Table Nat 16
  thresholds : Table Thresholds 4
deriving DecidableEq, Repr

/-- The lamp outputs (R71). -/
structure Lamps where
  run : Bool
  good : Bool
  bad : Bool
deriving DecidableEq, Repr

/-- The state of the Campaign Controller (chapter 4). -/
structure Campaign where
  state : CampaignState
  causes : PauseCauses
  pausePending : Bool
  number : Nat
  retestLimit : Nat
  origin : Option NvIx
  waitTimer : Option Nat
  result : Overall
  certified : Bool
  lastReset : ResetKind
  params : Params
  lamps : Lamps
  blinkTimer : Option Nat
  /-- a RESTART was accepted and its reset waits for the end of the reply (R18, R77) -/
  restartDue : Bool
deriving DecidableEq, Repr

/-! ## Epoch Planner -/

/-- Trial states (R83). -/
inductive TrialState where
  | held | vacated | graded
deriving DecidableEq, Repr

/-- A trial record (R83). -/
structure Trial where
  number : Nat
  leg : LegIx
  driver : LaneEnd
  receiver : LaneEnd
  listen : List Lane
  state : TrialState
deriving DecidableEq, Repr

/-- What a duty asks (R94). -/
inductive DutyKind where
  | drive (lane : Lane) (seed : Nat)
  | listen (expected : Lane) (set : List Lane)
deriving DecidableEq, Repr

/-- A duty record (R94). -/
structure Duty where
  index : Nat
  trial : Nat
  leg : LegIx
  kind : DutyKind
deriving DecidableEq, Repr

/-- Kinds of entry: a drive entry, or a listen entry with its mark (R95). -/
inductive EntryKind where
  | drive | expected | neighbour
deriving DecidableEq, Repr

/-- An entry of an entry list (R95). -/
structure Entry where
  kind : EntryKind
  lane : Lane
  trial : Nat
deriving DecidableEq, Repr

/-- The state of the Epoch Planner (chapter 5). -/
structure Planner where
  queue : List LegIx
  trials : List Trial
  duties : Table (List Duty) 20
  entries : Table (List Entry) 20
  /-- the active-node snapshot: addresses ascending, with channel counts (R86) -/
  snapshot : List (Slot × Nat)
deriving DecidableEq, Repr

/-! ## Epoch Controller -/

/-- Epoch states (R97). -/
inductive EpochState where
  | none | planning | announce | phase1 | gap | phase2 | collecting | grace | void
deriving DecidableEq, Repr

/-- How an epoch ended (R97). -/
inductive EpochOutcome where
  | closed | voided
deriving DecidableEq, Repr

/-- Drive statuses (R107, R178). -/
inductive DriveStatus where
  | drove | currentLimit | notDriven
deriving DecidableEq, Repr

/-- A received entry value (R107, R109). -/
inductive EntryValue where
  | drive (status : DriveStatus)
  | listen (q d e : Nat)
deriving DecidableEq, Repr

/-- The state of the Epoch Controller (chapter 6), with the strobe outputs. -/
structure Epoch where
  number : Nat
  /-- the epoch number just before the build in flight started (R87) -/
  before : Nat
  state : EpochState
  timer : Option Nat
  /-- grace length in ms (R97) -/
  grace : Nat
  /-- P5 as taken at announce end: DRIVE_FIRST (R104) -/
  driveFirst : Bool
  lastEnded : Option (Nat × EpochOutcome)
  backup : Bool
  /-- a line fault was signalled during the build in flight (R93) -/
  buildVoid : Bool
  released : Table Bool 20
  /-- values received, in entry order, from entry 0 up to the cursor (R97, R109) -/
  received : Table (List EntryValue) 20
  qstb : Bool
  dstb : Bool
deriving DecidableEq, Repr

/-! ## Grading Unit -/

/-- The state of the Grading Unit (R119). -/
structure Grading where
  refs : Table Nat 20
  refSnap : Table Nat 20
  thrSnap : Table Thresholds 4
deriving DecidableEq, Repr

/-! ## Results Table -/

/-- Verdicts (R150). -/
inductive Verdict where
  | none | pass | weak | open | errors | crossed | shorted | noDrive | noReport | untested
deriving DecidableEq, Repr

/-- A leg result record (R150). -/
structure LegResult where
  verdict : Verdict
  settled : Bool
  attempts : Nat
  margin : Option Nat
  errorCount : Option Nat
  signalLane : Option Lane
  lastEpoch : Option Nat
  degraded : Bool
  late : Bool
deriving DecidableEq, Repr

/-- The state of the Results Table (R150, R152). -/
structure Results where
  records : Table LegResult 960
  /-- PASS, WEAK, OPEN, ERRORS, CROSSED, SHORTED, NO_DRIVE, NO_REPORT, UNTESTED -/
  counts : Table Nat 9
  /-- the DEGRADED leg count -/
  degraded : Nat
deriving DecidableEq, Repr

/-! ## Findings List -/

/-- Finding kinds (R154). -/
inductive FindingKind where
  | bleed | crossed | lineStuck | railVoid
deriving DecidableEq, Repr

/-- A finding record (R154). -/
structure Finding where
  kind : FindingKind
  laneEnd : Option LaneEnd
  owner : Option LinkIx
  signalLane : Option Lane
  firstEpoch : Nat
  hits : Nat
  peak : Option Nat
deriving DecidableEq, Repr

/-- The state of the Findings List (R154). -/
structure Findings where
  list : List Finding
  overflow : Nat
deriving DecidableEq, Repr

/-! ## Rail Monitor -/

/-- Rail states (R139). -/
inductive RailState where
  | ok | sag
deriving DecidableEq, Repr

/-- The state of the Rail Monitor (R139), with the comparator output it watches (R140). -/
structure Rail where
  state : RailState
  filter : Option Nat
  sagCount : Nat
  voidTotal : Nat
  consecutive : Nat
  /-- the comparator output reads below -/
  below : Bool
deriving DecidableEq, Repr

/-! ## Timebase Unit -/

/-- Clock sources (R145). -/
inductive ClockSource where
  | reference | backup
deriving DecidableEq, Repr

/-- The state of the Timebase Unit (R145). -/
structure Timebase where
  source : ClockSource
  /-- REFCLK activity is RUNNING -/
  running : Bool
  /-- what is left of the 20 us in which the next REFCLK edge must come (R146); none while STOPPED -/
  gap : Option Nat
  returnTimer : Option Nat
  returnPending : Bool
  lossCount : Nat
deriving DecidableEq, Repr

/-! ## NV Store Controller -/

/-- NV states (R165). -/
inductive NvState where
  | idle | burning | writingCert
deriving DecidableEq, Repr

/-- Outcomes of the last NV result (R165). -/
inductive NvOutcome where
  | none | pending | ok | failed
deriving DecidableEq, Repr

/-- Operations of the last NV result (R165). -/
inductive NvOp where
  | mapBurn | certCommit
deriving DecidableEq, Repr

/-- The last NV result; operation and slot are absent while the outcome is NONE (R165). -/
structure NvResult where
  outcome : NvOutcome
  work : Option (NvOp × NvIx)
deriving DecidableEq, Repr

/-- A slot of the store: its marks and its body (R164). -/
structure NvSlot where
  begun : Bool
  done : Bool
  body : List Byte
deriving DecidableEq, Repr

/-- A write in flight: the slot and the bytes being written (R168, R171). -/
structure NvWrite where
  slot : NvIx
  bytes : List Byte
deriving DecidableEq, Repr

/-- The state of the NV Store Controller (chapter 10). -/
structure NvStore where
  gens : Table NvSlot 4
  certs : Table NvSlot 4
  state : NvState
  last : NvResult
  fallback : Bool
  write : Option NvWrite
deriving DecidableEq, Repr

end Sys2Proof.Machine
end

