-- ==== Sys2Proof/Machine/Defaults.lean ====
section
/-! DEFINITION. The reset values of every block (R18, R19, R20, R56, R72, R78, R97, R119, R139, R145, R150,
R158, R165). -/

namespace Sys2Proof.Machine

/-- The port after a reset (R18); the argument says whether SL is dominant when the reset ends. DESIGN CHOICE (log
entry 26): R18 names IDLE for a recessive line alone, and the line state is IDLE too while a level found dominant is
being measured. -/
def Port.afterReset (slDominant : Bool) : Port where
  line := .idle
  lineAtStart := .idle
  rxBytes := []
  rxBits := []
  reply := []
  replyPhase := .none
  tx := []
  arm := none
  checkErrors := 0
  framingErrors := 0
  noiseEvents := 0
  breaks := 0
  collisions := 0
  lineFaults := 0
  stuckWait := none
  levelFromReset := slDominant

/-- A node record after a reset (R19). -/
def NodeRecord.afterReset : NodeRecord where
  state := .absent
  channels := none
  misses := 0
  fetchComplete := false
  cursor := 0

/-- A presence filter after a reset: EMPTY, the level found being a new departure if low (R20). -/
def PresenceFilter.afterReset (low : Bool) : PresenceFilter where
  low := low
  seated := false
  running := if low then some Config.presenceMicros else none

/-- The Node Table after a reset (R19, R20, R26); the pins keep their levels. -/
def NodeTable.afterReset (pins : Table PresenceFilter 20) : NodeTable where
  probes := Table.fill 20 NodeRecord.afterReset
  station := NodeRecord.afterReset
  holder := none
  silence := 0
  presence := pins.each (fun p => PresenceFilter.afterReset p.low)

/-- A link record not in use (R36). -/
def LinkRecord.unused : LinkRecord where
  inUse := false
  endA := ⟨0, 0⟩
  endB := ⟨0, 0⟩
  cls := 0
  dirs := .ab

/-- The occupancy table with every entry FREE (R53). -/
def allFree : Table (Option LinkIx) 960 := Table.fill 960 none

/-- The Link Map Store when no generation is loaded (R56, R176). -/
def MapStore.empty : MapStore where
  links := Table.fill 480 LinkRecord.unused
  status := .edited
  error := .none
  occupancy := allFree
  origin := none
  inUse := 0

/-- The defaults of P1 to P16 (R72). -/
def generalDefaults : Table Nat 16 := #v[20, 20, 40, 5, 0, 50, 1, 3, 8, 32, 16, 64, 10, 20, 4, 20]

/-- The class threshold defaults (R72). -/
def thresholdDefaults : Table Thresholds 4 :=
  #v[⟨32, 160, 24, 0⟩, ⟨24, 96, 24, 2⟩, ⟨16, 64, 32, 8⟩, ⟨16, 48, 40, 16⟩]

/-- The default parameter set (R72). -/
def Params.defaults : Params := ⟨generalDefaults, thresholdDefaults⟩

/-- The parameter P(i + 1). -/
def Params.p (ps : Params) (i : Fin 16) : Nat := ps.general.at i

/-- No pause cause. -/
def PauseCauses.empty : PauseCauses := ⟨false, false, false⟩

/-- All lamps off (R71). -/
def Lamps.off : Lamps := ⟨false, false, false⟩

/-- The campaign record after a reset (R78), given the parameters and the campaign number that hold after it. -/
def Campaign.afterReset (kind : ResetKind) (params : Params) (number : Nat) : Campaign where
  state := .idle
  causes := PauseCauses.empty
  pausePending := false
  number := number
  retestLimit := params.p 6
  origin := none
  waitTimer := none
  result := .none
  certified := false
  lastReset := kind
  params := params
  lamps := Lamps.off
  blinkTimer := none
  restartDue := false

/-- The Epoch Planner after a reset (R79, R83, R93). -/
def Planner.afterReset : Planner where
  queue := []
  trials := []
  duties := Table.fill 20 []
  entries := Table.fill 20 []
  snapshot := []

/-- The epoch record after a reset (R97). -/
def Epoch.afterReset : Epoch where
  number := 0
  before := 0
  state := .none
  timer := none
  grace := 0
  driveFirst := false
  lastEnded := none
  backup := false
  buildVoid := false
  released := Table.fill 20 false
  received := Table.fill 20 []
  qstb := false
  dstb := false

/-- The Grading Unit after a reset: references at P12 times 256, thresholds as stored (R119). -/
def Grading.afterReset (params : Params) : Grading where
  refs := Table.fill 20 (params.p 11 * 256)
  refSnap := Table.fill 20 (params.p 11 * 256)
  thrSnap := params.thresholds

/-- The reset form of a leg result record (R150). -/
def LegResult.resetForm : LegResult where
  verdict := .none
  settled := false
  attempts := 0
  margin := none
  errorCount := none
  signalLane := none
  lastEpoch := none
  degraded := false
  late := false

/-- The Results Table with every record in its reset form (R150, R152). -/
def Results.cleared : Results where
  records := Table.fill 960 LegResult.resetForm
  counts := Table.fill 9 0
  degraded := 0

/-- The Findings List emptied (R158). -/
def Findings.cleared : Findings := ⟨[], 0⟩

/-- The Rail Monitor after a reset (R139): a comparator that reads below begins a new departure, timed by P14. -/
def Rail.afterReset (below : Bool) (params : Params) : Rail where
  state := .ok
  filter := if below then some (params.p 13) else none
  sagCount := 0
  voidTotal := 0
  consecutive := 0
  below := below

/-- The Timebase Unit after a POWER or PIN reset (R145). -/
def Timebase.afterReset : Timebase where
  source := .backup
  running := false
  gap := none
  returnTimer := none
  returnPending := false
  lossCount := 0

/-- No last NV result (R165). -/
def NvResult.none : NvResult := ⟨.none, Option.none⟩

/-- A slot never used (R164). -/
def NvSlot.free : NvSlot := ⟨false, false, []⟩

/-- The store of a fresh part: every slot FREE (R164, log entry 11). -/
def NvStore.fresh : NvStore where
  gens := Table.fill 4 NvSlot.free
  certs := Table.fill 4 NvSlot.free
  state := .idle
  last := NvResult.none
  fallback := false
  write := none

/-- A presence pin that is high, its filter EMPTY (log entry 11). -/
def PresenceFilter.unseated : PresenceFilter := ⟨false, false, none⟩

end Sys2Proof.Machine
end

