-- ==== Sys2Proof/Machine/State.lean ====
section
/-! DEFINITION. The state of the whole part, the reasons a step can stop, and the state after reset. -/

namespace Sys2Proof.Machine

/-- The part: its twelve blocks (spec/00, Block Overview), a reset in progress, and the queue of commands. -/
structure State where
  port : Port
  nodes : NodeTable
  map : MapStore
  campaign : Campaign
  planner : Planner
  epoch : Epoch
  grading : Grading
  results : Results
  findings : Findings
  rail : Rail
  timebase : Timebase
  nv : NvStore
  /-- the kind of the POWER or PIN reset in progress (R76) -/
  held : Option ResetKind
  /-- THE MODEL's OWN (log entry 2): how many places have been drawn from the free event order -/
  freeDraws : Nat
  /-- THE MODEL's OWN (log entry 22): commands waiting, first in first out -/
  pending : List Instr
deriving DecidableEq, Repr

/-- Reasons to stop with a fault. The block has none: the spec gives every command an effect in every state,
and what goes wrong on its lines is an effect on its counters, findings and replies. Nothing raises it. -/
inductive Fault where
deriving DecidableEq, Repr

/-- Reasons to refuse a command. -/
inductive Refusal where
  /-- Raised by an arm of exec whose command has no meaning yet; safe (the model stops). No arm does so. -/
  | notModelled (mnemonic : String)
deriving DecidableEq, Repr

/-- The part right after the POWER reset of a fresh part: every block at its POWER values (R18, R19, R20,
R56, R72, R78, R97, R119, R139, R145, R150, R158, R165), nothing to load, no card seated, the rail up, SL
recessive (log entry 11). -/
def State.reset : State where
  port := Port.afterReset false
  nodes := NodeTable.afterReset (Table.fill 20 PresenceFilter.unseated)
  map := MapStore.empty
  campaign := Campaign.afterReset .power Params.defaults 0
  planner := Planner.afterReset
  epoch := Epoch.afterReset
  grading := Grading.afterReset Params.defaults
  results := Results.cleared
  findings := Findings.cleared
  rail := Rail.afterReset false Params.defaults
  timebase := Timebase.afterReset
  nv := NvStore.fresh
  held := none
  freeDraws := 0
  pending := []

/-- Change the Service Line Port alone. -/
def State.onPort (s : State) (f : Port → Port) : State := { s with port := f s.port }
/-- Change the Node Table alone. -/
def State.onNodes (s : State) (f : NodeTable → NodeTable) : State := { s with nodes := f s.nodes }
/-- Change the Link Map Store alone. -/
def State.onMap (s : State) (f : MapStore → MapStore) : State := { s with map := f s.map }
/-- Change the Campaign Controller alone. -/
def State.onCampaign (s : State) (f : Campaign → Campaign) : State := { s with campaign := f s.campaign }
/-- Change the Epoch Planner alone. -/
def State.onPlanner (s : State) (f : Planner → Planner) : State := { s with planner := f s.planner }
/-- Change the Epoch Controller alone. -/
def State.onEpoch (s : State) (f : Epoch → Epoch) : State := { s with epoch := f s.epoch }
/-- Change the Grading Unit alone. -/
def State.onGrading (s : State) (f : Grading → Grading) : State := { s with grading := f s.grading }
/-- Change the Results Table alone. -/
def State.onResults (s : State) (f : Results → Results) : State := { s with results := f s.results }
/-- Change the Findings List alone. -/
def State.onFindings (s : State) (f : Findings → Findings) : State := { s with findings := f s.findings }
/-- Change the Rail Monitor alone. -/
def State.onRail (s : State) (f : Rail → Rail) : State := { s with rail := f s.rail }
/-- Change the Timebase Unit alone. -/
def State.onTimebase (s : State) (f : Timebase → Timebase) : State := { s with timebase := f s.timebase }
/-- Change the NV Store Controller alone. -/
def State.onNv (s : State) (f : NvStore → NvStore) : State := { s with nv := f s.nv }

end Sys2Proof.Machine
end

