-- ==== Sys2Proof/Machine/Operands.lean ====
section
/-! DEFINITION. What a frame carries: check bytes, the header, reply codes, and every field of a request's
payload (R5, R12, R166, R177, R178, R179). -/

namespace Sys2Proof.Machine

/-! ## Numbers and bytes -/

/-- A flag as a number of the given weight, for flag bytes. -/
def flag (b : Bool) (weight : Nat) : Nat := if b then weight else 0

/-- A two-byte field, most significant byte first (R1, R177). -/
def be16 (n : Nat) : List Byte := [byteOf (n / 256), byteOf n]

/-- The number of two bytes, most significant first (R177). -/
def num16 (hi lo : Byte) : Nat := hi.toNat * 256 + lo.toNat

/-- The byte at an offset of a stored body; 0 beyond its end. -/
def byteAt (body : List Byte) (i : Nat) : Byte := body.getD i 0

/-! ## The check byte and the check value -/

/-- One shift of the CRC-8 register with generator 2Fh (R5). -/
def crc8Shift (r : Byte) : Byte := if r.msb then (r <<< 1) ^^^ 0x2F#8 else r <<< 1

/-- Combine one byte with the CRC-8 register (R5). -/
def crc8Byte (r b : Byte) : Byte :=
  crc8Shift (crc8Shift (crc8Shift (crc8Shift (crc8Shift (crc8Shift (crc8Shift (crc8Shift (r ^^^ b))))))))

/-- The check byte of the covered bytes (R5). -/
def crc8 (bytes : List Byte) : Byte := bytes.foldl crc8Byte 0xFF#8

/-- One shift of the CRC-16 register with generator 1021h (R166). -/
def crc16Shift (r : BitVec 16) : BitVec 16 := if r.msb then (r <<< 1) ^^^ 0x1021#16 else r <<< 1

/-- Combine one byte with the upper eight bits of the CRC-16 register (R166). -/
def crc16Byte (r : BitVec 16) (b : Byte) : BitVec 16 :=
  crc16Shift (crc16Shift (crc16Shift (crc16Shift (crc16Shift (crc16Shift (crc16Shift (crc16Shift
    (r ^^^ (b.setWidth 16 <<< 8)))))))))

/-- The check value of the covered bytes (R166). -/
def crc16 (bytes : List Byte) : BitVec 16 := bytes.foldl crc16Byte 0xFFFF#16

/-- A slot body closed by its check value, most significant byte first (R166). -/
def withCheck (bytes : List Byte) : List Byte := bytes ++ be16 (crc16 bytes).toNat

/-- The stored check value equals the one computed from the stored bytes before it (R166). -/
def intact (body : List Byte) : Bool :=
  2 ≤ body.length && body.drop (body.length - 2) == be16 (crc16 (body.take (body.length - 2))).toNat

/-! ## Frames -/

/-- The bytes of a request frame that the check byte covers (R5, R177). -/
def frameBody (header kind : Byte) (payload : List Byte) : List Byte :=
  header :: kind :: byteOf payload.length :: payload

/-- A request frame as it lies in the receive buffer (R177). -/
def requestFrame (header kind : Byte) (payload : List Byte) : List Byte :=
  frameBody header kind payload ++ [crc8 (frameBody header kind payload)]

/-- The priority of a header (R12, step 1); it is not used further. -/
def priorityOf (header : Byte) : Nat := header.toNat / 32

/-- The address of a header (R12, step 1). -/
def addressOf (header : Byte) : Nat := header.toNat % 32

/-- The senders that own a node record (R19). -/
inductive Sender where
  | probe (n : Slot)
  | station
deriving DecidableEq, Repr

/-- The sender of a header's address; addresses 20 to 30 belong to no node (R12, step 4). -/
def senderOf (header : Byte) : Option Sender :=
  if h : addressOf header < 20 then some (.probe ⟨addressOf header, h⟩)
  else if addressOf header = 31 then some .station
  else none

/-- The reply codes (chapter 1.6). -/
inductive ReplyCode where
  | ok | accepted | duplicate | wait
  | state | role | notEnrolled | notSeated | stationHeld | capability | unarmed | range | malformed
  | stale | tooLate | voided | noDuty | order | mismatch
  | busy | full | unknownKind
deriving DecidableEq, Repr

/-- The value of a reply code (R179). -/
def ReplyCode.byte : ReplyCode → Byte
  | .ok => 0x00#8
  | .accepted => 0x01#8
  | .duplicate => 0x02#8
  | .wait => 0x03#8
  | .state => 0x10#8
  | .role => 0x11#8
  | .notEnrolled => 0x12#8
  | .notSeated => 0x13#8
  | .stationHeld => 0x14#8
  | .capability => 0x15#8
  | .unarmed => 0x16#8
  | .range => 0x17#8
  | .malformed => 0x18#8
  | .stale => 0x20#8
  | .tooLate => 0x21#8
  | .voided => 0x22#8
  | .noDuty => 0x23#8
  | .order => 0x24#8
  | .mismatch => 0x25#8
  | .busy => 0x30#8
  | .full => 0x31#8
  | .unknownKind => 0x3F#8

/-- What an owner answers: a reply code and a payload (R14). -/
structure Answer where
  code : ReplyCode
  payload : List Byte
deriving DecidableEq, Repr

/-- A refusal, whose payload is empty (R14). -/
def Answer.refusal (code : ReplyCode) : Answer := ⟨code, []⟩

/-- The bytes of a reply: code, length, payload, check byte (R14, R177). -/
def Answer.bytes (a : Answer) : List Byte :=
  let body := a.code.byte :: byteOf a.payload.length :: a.payload
  body ++ [crc8 body]

/-! ## The waveform of a reply -/

/-- The eight bits of a byte, most significant first (R1). -/
def bitsOf (b : Byte) : List Bool :=
  [b.getLsbD 7, b.getLsbD 6, b.getLsbD 5, b.getLsbD 4, b.getLsbD 3, b.getLsbD 2, b.getLsbD 1, b.getLsbD 0]

/-- The byte of eight bits, most significant first (R1, R3). -/
def byteOfBits (bits : List Bool) : Byte := byteOf (bits.foldl (fun n b => 2 * n + flag b 1) 0)

/-- The slot of a bit: 7 us dominant for a 0, 3 us for a 1, of 10 us (R1). -/
def bitSlot (b : Bool) : Pulse := if b then ⟨3, 7⟩ else ⟨7, 3⟩

/-- A start mark of 40 us, 10 us recessive, then the reply buffer in bit slots (R15). -/
def replyWave (reply : List Byte) : List Pulse :=
  ⟨40, 10⟩ :: (reply.flatMap bitsOf).map bitSlot

/-- How a dominant pulse is classed by its width in whole microseconds (R2). -/
inductive PulseClass where
  | unseen | noise | bit (one : Bool) | badSymbol | startMark | long
deriving DecidableEq, Repr

/-- The table of R2, for pulses that have returned to recessive. -/
def classify (width : Nat) : PulseClass :=
  if width < 1 then .unseen
  else if width < 2 then .noise
  else if width < 5 then .bit true
  else if width < 10 then .bit false
  else if width < 30 then .badSymbol
  else if width < 300 then .startMark
  else .long

/-! ## Fields of request payloads (R178) -/

/-- The value of a direction set (R178). -/
def DirSet.code : DirSet → Nat
  | .ab => 1
  | .ba => 2
  | .both => 3

/-- The direction set a code names (R178). -/
def dirSetOf : Nat → Option DirSet
  | 1 => some .ab
  | 2 => some .ba
  | 3 => some .both
  | _ => none

/-- A lane end within range (R42). -/
def laneEndOf (slot lane : Byte) : Option LaneEnd :=
  if h : slot.toNat < 20 ∧ lane.toNat < 48 then some ⟨⟨slot.toNat, h.1⟩, ⟨lane.toNat, h.2⟩⟩ else none

/-- The link record of five bytes, if it passes the range test of R42 (R178). -/
def linkOf (slotA laneA slotB laneB tail : Byte) : Option LinkRecord :=
  if slotA = 255#8 then some LinkRecord.unused
  else
    match laneEndOf slotA laneA, laneEndOf slotB laneB, dirSetOf (tail.toNat % 16) with
    | some a, some b, some d =>
        if h : tail.toNat / 16 < 4 then some ⟨true, a, b, ⟨tail.toNat / 16, h⟩, d⟩ else none
    | _, _, _ => none

/-- The link records of a run of bytes, if every one passes the range test (R42). -/
def linksOf : List Byte → Option (List LinkRecord)
  | sa :: la :: sb :: lb :: t :: rest =>
      match linkOf sa la sb lb t, linksOf rest with
      | some r, some rs => some (r :: rs)
      | _, _ => none
  | _ => some []

/-- The five bytes of a link record (R178). -/
def LinkRecord.bytes (r : LinkRecord) : List Byte :=
  if r.inUse then
    [byteOf r.endA.slot, byteOf r.endA.lane, byteOf r.endB.slot, byteOf r.endB.lane,
     byteOf (r.cls * 16 + r.dirs.code)]
  else [255#8, 0#8, 0#8, 0#8, 0#8]

/-- The arm kind a kind value names (R178: 23h, 60h, 70h). -/
def armKindOf (b : Byte) : Option ArmKind :=
  if b = RequestKind.mapBurn.byte then some .mapBurn
  else if b = RequestKind.certCommit.byte then some .certCommit
  else if b = RequestKind.restart.byte then some .restart
  else none

/-- The kind value of an armed kind (R178). -/
def ArmKind.byte : ArmKind → Byte
  | .mapBurn => RequestKind.mapBurn.byte
  | .certCommit => RequestKind.certCommit.byte
  | .restart => RequestKind.restart.byte

/-- The drive status of a code (R178). -/
def driveStatusOf (b : Byte) : Option DriveStatus :=
  if b = 1#8 then some .drove
  else if b = 2#8 then some .currentLimit
  else if b = 3#8 then some .notDriven
  else none

/-- A report entry as its bytes give it (R108, R178). -/
inductive RawEntry where
  | drive (lane status : Byte)
  | listen (lane : Byte) (q d e : Nat)
deriving DecidableEq, Repr

/-- The lane a report entry names. -/
def RawEntry.lane : RawEntry → Nat
  | .drive l _ => l.toNat
  | .listen l _ _ _ => l.toNat

/-- The value of a report entry, if a drive status is one of the three (R109, step 3). -/
def RawEntry.value : RawEntry → Option EntryValue
  | .drive _ st => (driveStatusOf st).map .drive
  | .listen _ q d e => some (.listen q d e)

/-- Cut entry bytes by the sizes of the kinds in the entry list (R108, R178); none where the bytes end part
of the way through an entry or would need an entry beyond the end of the list. -/
def cutEntries : List Entry → List Byte → Option (List RawEntry)
  | _, [] => some []
  | [], _ :: _ => none
  | e :: es, b :: bs =>
      match e.kind, bs with
      | .drive, st :: rest => (cutEntries es rest).map (RawEntry.drive b st :: ·)
      | .drive, [] => none
      | _, q1 :: q0 :: d1 :: d0 :: er :: rest =>
          (cutEntries es rest).map (RawEntry.listen b (num16 q1 q0) (num16 d1 d0) er.toNat :: ·)
      | _, _ => none

/-- The walk of R108 from an entry index: at least one whole entry, and exactly to the end of the bytes. -/
def walk (entries : List Entry) (first : Nat) (bytes : List Byte) : Option (List RawEntry) :=
  match cutEntries (entries.drop first) bytes with
  | some (r :: rs) => some (r :: rs)
  | _ => none

end Sys2Proof.Machine
end

