-- ==== Sys2Proof/Machine/Flags.lean ====
section
/-! DEFINITION. Every flag byte and state code the layouts give (R179, R180, R181). -/

namespace Sys2Proof.Machine

/-- Node state codes of ENROL's reply (R179). -/
def NodeState.code : NodeState → Nat
  | .absent => 0
  | .active => 1
  | .lapsed => 2

/-- Campaign state codes (R180). -/
def CampaignState.code : CampaignState → Nat
  | .idle => 0
  | .running => 1
  | .waiting => 2
  | .paused => 3
  | .done => 4
  | .aborted => 5

/-- Epoch state codes (R180). -/
def EpochState.code : EpochState → Nat
  | .none => 0
  | .planning => 1
  | .announce => 2
  | .phase1 => 3
  | .gap => 4
  | .phase2 => 5
  | .collecting => 6
  | .grace => 7
  | .void => 8

/-- Overall result codes (R180, R181). -/
def Overall.code : Overall → Nat
  | .none => 0
  | .good => 1
  | .bad => 2

/-- Reset kind codes (R180). -/
def ResetKind.code : ResetKind → Nat
  | .power => 1
  | .pin => 2
  | .restart => 3

/-- Map status codes (R180). -/
def MapStatus.code : MapStatus → Nat
  | .edited => 0
  | .checking => 1
  | .valid => 2
  | .faulty => 3

/-- Verdict codes (R179). -/
def Verdict.code : Verdict → Nat
  | .none => 0
  | .pass => 1
  | .weak => 2
  | .open => 3
  | .errors => 4
  | .crossed => 5
  | .shorted => 6
  | .noDrive => 7
  | .noReport => 8
  | .untested => 9

/-- Finding kind codes (R179). -/
def FindingKind.code : FindingKind → Nat
  | .bleed => 1
  | .crossed => 2
  | .lineStuck => 3
  | .railVoid => 4

/-- NV state codes (R180). -/
def NvState.code : NvState → Nat
  | .idle => 0
  | .burning => 1
  | .writingCert => 2

/-- NV outcome codes (R180). -/
def NvOutcome.code : NvOutcome → Nat
  | .none => 0
  | .pending => 1
  | .ok => 2
  | .failed => 3

/-- An NV operation is sent as the kind value of its request (R180). -/
def NvOp.byte : NvOp → Byte
  | .mapBurn => RequestKind.mapBurn.byte
  | .certCommit => RequestKind.certCommit.byte

/-- A generation number, or 0 for none (R180). -/
def originCode : Option NvIx → Nat
  | none => 0
  | some n => n.val + 1

/-- The flags of a result record (R179). -/
def LegResult.flags (r : LegResult) : Byte :=
  byteOf (flag r.settled 1 + flag r.degraded 2 + flag r.late 4 + flag r.margin.isSome 8
    + flag r.errorCount.isSome 16 + flag r.signalLane.isSome 32 + flag r.lastEpoch.isSome 64)

/-- The presence bits of a finding record (R179). -/
def Finding.presence (f : Finding) : Byte :=
  byteOf (flag f.laneEnd.isSome 1 + flag f.owner.isSome 2 + flag f.signalLane.isSome 4 + flag f.peak.isSome 8)

/-- The causes that stand in the way of a START or RESUME (R58, R63). -/
structure StartCauses where
  map : Bool
  nv : Bool
  rail : Bool
  line : Bool
  nodes : Bool
  running : Bool
deriving DecidableEq, Repr

/-- No cause. -/
def StartCauses.empty : StartCauses := ⟨false, false, false, false, false, false⟩

/-- The cause set RUNNING alone (R58, R63). -/
def StartCauses.runningOnly : StartCauses := { StartCauses.empty with running := true }

/-- The cause-set byte (R179). -/
def StartCauses.byte (c : StartCauses) : Byte :=
  byteOf (flag c.map 1 + flag c.nv 2 + flag c.rail 4 + flag c.line 8 + flag c.nodes 16 + flag c.running 32)

/-- Offset 1 of STATUS page 0 (R180). -/
def Campaign.flags (c : Campaign) : Byte :=
  byteOf (flag c.certified 1 + flag c.pausePending 2 + flag c.causes.station 4 + flag c.causes.rail 8
    + flag c.causes.line 16 + c.result.code * 64)

/-- The conditions byte of STATUS page 1 (R162, R180). -/
def State.conditions (s : State) : Byte :=
  byteOf (flag (s.rail.state == .sag) 1 + flag (s.timebase.source == .backup) 2
    + flag s.timebase.returnPending 4 + flag (s.port.lineAtStart == .receiving) 8)

/-- The marks of four slots: begun in bits 0 to 3, done in bits 4 to 7 (R180). -/
def marksByte (slots : Table NvSlot 4) : Byte :=
  byteOf (flag (slots.at 0).begun 1 + flag (slots.at 1).begun 2 + flag (slots.at 2).begun 4
    + flag (slots.at 3).begun 8 + flag (slots.at 0).done 16 + flag (slots.at 1).done 32
    + flag (slots.at 2).done 64 + flag (slots.at 3).done 128)

end Sys2Proof.Machine
end

