-- ==== Sys2Proof/Machine/Ops.lean ====
section
/-! DEFINITION. The operations the blocks share: legs of the map, findings, results, lamps, the entries of the
campaign into its states, the start of a plan build, the close and the void of an epoch. -/

namespace Sys2Proof.Machine

/-- One more, staying at the stated maximum (spec/00, Ranges and arithmetic). -/
def satInc (max n : Nat) : Nat := if n < max then n + 1 else n

/-- The distance between two lane numbers (R89). -/
def apart (a b : Nat) : Nat := (a - b) + (b - a)

/-- The parameter P(i + 1) as stored. -/
def State.p (s : State) (i : Fin 16) : Nat := s.campaign.params.p i

/-! ## Legs of the working map -/

/-- The place of a lane end in the occupancy table. -/
def LaneEnd.index (e : LaneEnd) : Fin 960 :=
  ⟨e.slot.val * 48 + e.lane.val, by have := e.slot.isLt; have := e.lane.isLt; omega⟩

/-- The link a leg belongs to (R37). -/
def linkOfLeg (l : LegIx) : LinkIx := ⟨l.val / 2, by have := l.isLt; omega⟩

/-- The leg is direction 0: A drives and B receives (R37). -/
def isForward (l : LegIx) : Bool := l.val % 2 == 0

/-- The leg of a link and a direction (R37). -/
def forwardLeg (k : LinkIx) : LegIx := ⟨k.val * 2, by have := k.isLt; omega⟩

/-- The leg of a link with B driving (R37). -/
def backwardLeg (k : LinkIx) : LegIx := ⟨k.val * 2 + 1, by have := k.isLt; omega⟩

/-- The record a leg is read from (R38). -/
def MapStore.recordOfLeg (m : MapStore) (l : LegIx) : LinkRecord := m.links.at (linkOfLeg l)

/-- A leg index is a leg of the working map (R37). -/
def MapStore.isLeg (m : MapStore) (l : LegIx) : Bool :=
  let r := m.recordOfLeg l
  r.inUse && (if isForward l then r.dirs != .ba else r.dirs != .ab)

/-- Driver end of a leg (R38). -/
def MapStore.driverEnd (m : MapStore) (l : LegIx) : LaneEnd :=
  if isForward l then (m.recordOfLeg l).endA else (m.recordOfLeg l).endB

/-- Receiver end of a leg (R38). -/
def MapStore.receiverEnd (m : MapStore) (l : LegIx) : LaneEnd :=
  if isForward l then (m.recordOfLeg l).endB else (m.recordOfLeg l).endA

/-- The legs of one link record, ascending (R37). -/
def legsOfLink (k : LinkIx) (r : LinkRecord) : List LegIx :=
  if r.inUse then
    match r.dirs with
    | .ab => [forwardLeg k]
    | .ba => [backwardLeg k]
    | .both => [forwardLeg k, backwardLeg k]
  else []

/-- The leg list of the working map, ascending (R40). -/
def MapStore.legList (m : MapStore) : List LegIx := m.links.indexed.flatMap (fun kr => legsOfLink kr.1 kr.2)

/-- The listen set of a receiver lane, ascending (R39). -/
def listenSet (r : Lane) : List Lane :=
  (if h : 1 ≤ r.val then [⟨r.val - 1, by have := r.isLt; omega⟩] else []) ++ [r]
    ++ (if h : r.val ≤ 46 then [⟨r.val + 1, by omega⟩] else [])

/-- How many records are in use (R36). -/
def countInUse (links : Table LinkRecord 480) : Nat := links.toList.countP (·.inUse)

/-! ## Findings and lamps -/

/-- A settled verdict other than PASS exists, or a BLEED, CROSSED or LINE_STUCK record (R71). -/
def badCondition (s : State) : Bool :=
  (s.results.counts.toList.drop 1).any (fun n => 1 ≤ n) || s.findings.list.any (fun f => f.kind != .railVoid)

/-- The lamps the table of R71 asks for; in PAUSED, LRUN holds its place in the blink. -/
def lampsFor (s : State) : Lamps :=
  match s.campaign.state with
  | .idle => Lamps.off
  | .running | .waiting => ⟨true, false, badCondition s⟩
  | .paused => ⟨s.campaign.lamps.run, false, badCondition s⟩
  | .done => ⟨false, s.campaign.result == .good, s.campaign.result == .bad⟩
  | .aborted => ⟨false, false, true⟩

/-- Bring the lamp outputs to the table of R71; the blink runs in PAUSED alone. -/
def showLamps (s : State) : State :=
  s.onCampaign fun c =>
    { c with lamps := lampsFor s, blinkTimer := if c.state = .paused then c.blinkTimer else none }

/-- What a block presents to the Findings List (R155). -/
structure Presentation where
  kind : FindingKind
  laneEnd : Option LaneEnd
  signalLane : Option Lane
  epoch : Nat
  margin : Option Nat
deriving DecidableEq, Repr

/-- A record's key is that of the presentation: kind and lane end (R154). -/
def Finding.hasKey (f : Finding) (p : Presentation) : Bool := f.kind == p.kind && f.laneEnd == p.laneEnd

/-- The presented margin exceeds the record's peak (R157). -/
def Finding.exceeded (f : Finding) (p : Presentation) : Bool :=
  match f.peak, p.margin with
  | some old, some new => old < new
  | _, _ => false

/-- A presentation adds a hit to the record of its key (R157). -/
def Finding.hit (f : Finding) (p : Presentation) : Finding :=
  { f with
    hits := satInc 255 f.hits
    peak := if f.exceeded p then p.margin else f.peak
    signalLane := if f.exceeded p && f.kind == .crossed then p.signalLane else f.signalLane }

/-- Add a hit to the record that holds the key, if one does (R157). -/
def recordHit (p : Presentation) : List Finding → Option (List Finding)
  | [] => none
  | f :: fs => if f.hasKey p then some (f.hit p :: fs) else (recordHit p fs).map (f :: ·)

/-- A new record; its owning link is what the occupancy table gives the lane end (R54, R156). -/
def newFinding (m : MapStore) (p : Presentation) : Finding where
  kind := p.kind
  laneEnd := p.laneEnd
  owner := p.laneEnd.bind (fun e => m.occupancy.at e.index)
  signalLane := p.signalLane
  firstEpoch := p.epoch
  hits := 1
  peak := p.margin

/-- The list after a presentation within the recording window (R156, R157). -/
def Findings.after (fl : Findings) (m : MapStore) (p : Presentation) : Findings :=
  match recordHit p fl.list with
  | some list => { fl with list := list }
  | none =>
      if fl.list.length < 64 then { fl with list := fl.list ++ [newFinding m p] }
      else { fl with overflow := satInc 65535 fl.overflow }

/-- The campaign is RUNNING, WAITING or PAUSED. -/
def CampaignState.live : CampaignState → Bool
  | .running | .waiting | .paused => true
  | .idle | .done | .aborted => false

/-- A presentation reaches the Findings List; outside the recording window it is discarded (R155). -/
def present (p : Presentation) (s : State) : State :=
  if s.campaign.state.live then showLamps (s.onFindings (fun fl => fl.after s.map p)) else s

/-! ## Results -/

/-- The place of a verdict among the nine settled-verdict counts (R152). -/
def Verdict.countIx : Verdict → Option (Fin 9)
  | .none => Option.none
  | .pass => some 0
  | .weak => some 1
  | .open => some 2
  | .errors => some 3
  | .crossed => some 4
  | .shorted => some 5
  | .noDrive => some 6
  | .noReport => some 7
  | .untested => some 8

/-- Write a leg's record, keeping the DEGRADED leg count (R152). -/
def Results.write (rs : Results) (l : LegIx) (r : LegResult) : Results :=
  { rs with
    records := rs.records.put l r
    degraded := rs.degraded - flag (rs.records.at l).degraded 1 + flag r.degraded 1 }

/-- The settled count of a verdict rises by one (R152). -/
def Results.count (rs : Results) (v : Verdict) : Results :=
  match v.countIx with
  | some i => { rs with counts := rs.counts.change i (· + 1) }
  | none => rs

/-! ## Timebase -/

/-- A pending return to the reference clock is applied (R148). -/
def applyReturn (s : State) : State :=
  s.onTimebase fun t => if t.returnPending then { t with source := .reference, returnPending := false } else t

/-! ## The campaign enters its states -/

/-- What every entry to PAUSED, WAITING, DONE or ABORTED ends: epoch state NONE, timer stopped, strobes low,
trial table, lists, snapshot and received entries emptied (R61, R64, R70, R83, R86, R94, R97, R104). -/
def endEpochWork (s : State) : State :=
  (s.onPlanner fun p =>
    { p with trials := [], duties := Table.fill 20 [], entries := Table.fill 20 [], snapshot := [] }).onEpoch fun e =>
    { e with state := .none, timer := none, qstb := false, dstb := false, received := Table.fill 20 [] }

/-- Entry to PAUSED: pause-pending is cleared, the wait timer stops, a new on period of LRUN begins (R60,
R61, R62, R71). -/
def enterPaused (s : State) : State :=
  showLamps ((endEpochWork s).onCampaign fun c =>
    { c with
      state := .paused
      pausePending := false
      waitTimer := none
      lamps := { c.lamps with run := true }
      blinkTimer := some Config.blinkMicros })

/-- Entry to WAITING with P13 seconds on the wait timer (R68); a pending return is applied (R148). -/
def enterWaiting (s : State) : State :=
  showLamps (applyReturn ((endEpochWork s).onCampaign fun c =>
    { c with state := .waiting, waitTimer := some (s.p 12 * 1000000) }))

/-- Every leg is settled PASS, no harmful finding, no overflow (R70). -/
def allGood (s : State) : Bool :=
  s.results.counts.at 0 == s.map.legList.length
    && s.findings.list.all (fun f => f.kind == .railVoid) && s.findings.overflow == 0

/-- Entry to DONE, which sets the overall result (R70); a pending return is applied (R148). -/
def enterDone (s : State) : State :=
  showLamps (applyReturn ((endEpochWork s).onCampaign fun c =>
    { c with
      state := .done
      result := if allGood s then .good else .bad
      waitTimer := none
      causes := PauseCauses.empty
      pausePending := false }))

/-! ## The start of a plan build -/

/-- The number a plan build takes: one more, 65535 advancing to 1 (R87). -/
def nextEpochNumber (n : Nat) : Nat := if n = 65535 then 1 else n + 1

/-- The active-node snapshot of the node table (R28, R86). -/
def activeSnapshot (probes : Table NodeRecord 20) : List (Slot × Nat) :=
  probes.indexed.filterMap fun nr => if nr.2.state = .active then some (nr.1, nr.2.channels.getD 0) else none

/-- A node record at a plan build start: flag clear, cursor 0 (R19, R85). -/
def NodeRecord.freshEpoch (r : NodeRecord) : NodeRecord := { r with fetchComplete := false, cursor := 0 }

/-- Step 1 of a plan build start: the epoch number advances (R85, R87). -/
def advanceEpoch (s : State) : State :=
  s.onEpoch fun e => { e with before := e.number, number := nextEpochNumber e.number }

/-- Steps 3 and 6: the active-node snapshot is taken, the trial table and the lists are emptied (R85, R86). -/
def openPlan (s : State) : State :=
  s.onPlanner fun p =>
    { p with
      snapshot := activeSnapshot s.nodes.probes
      trials := []
      duties := Table.fill 20 []
      entries := Table.fill 20 [] }

/-- Steps 4 and 5: the references and the class thresholds are copied (R85, R122). -/
def snapGrading (s : State) : State :=
  s.onGrading fun g => { g with refSnap := g.refs, thrSnap := s.campaign.params.thresholds }

/-- Step 6: every node record's fetch-complete flag is cleared and its cursor set to 0 (R19, R85). -/
def clearProgress (s : State) : State :=
  s.onNodes fun n =>
    { n with probes := n.probes.each NodeRecord.freshEpoch, station := n.station.freshEpoch }

/-- Step 7: the epoch state becomes PLANNING; released marks and received entries go (R85, R97, R106). -/
def beginPlanning (s : State) : State :=
  s.onEpoch fun e =>
    { e with
      state := .planning
      timer := none
      buildVoid := false
      released := Table.fill 20 false
      received := Table.fill 20 [] }

/-- A plan build starts (R85); the pending return is applied before the snapshot (R148). -/
def startPlanBuild (s : State) : State :=
  beginPlanning (clearProgress (snapGrading (openPlan (applyReturn (advanceEpoch s)))))

/-- A plan build ends without proceeding to ANNOUNCE and gives its number back (R87). -/
def giveNumberBack (s : State) : State := s.onEpoch fun e => { e with number := e.before }

/-- Legs return to the head of the queue in the order given (R81). -/
def returnLegs (legs : List LegIx) (s : State) : State :=
  s.onPlanner fun p => { p with queue := legs ++ p.queue }

/-- The trials still HELD, in ascending trial number (R84). -/
def heldTrials (s : State) : List Trial := s.planner.trials.filter (fun t => t.state == .held)

/-- Vacate every HELD trial that the test picks (R84). -/
def vacate (pick : Trial → Bool) (s : State) : State :=
  s.onPlanner fun p =>
    { p with
      trials := p.trials.map fun t => if t.state == .held && pick t then { t with state := .vacated } else t }

/-! ## Close and settle end -/

/-- What follows the close of an epoch (R61). -/
def decideAfterClose (s : State) : State :=
  if s.campaign.pausePending then enterPaused s
  else if s.planner.queue.isEmpty && (heldTrials s).isEmpty then enterDone s
  else startPlanBuild s

/-- The pause-cause set holds a cause. -/
def PauseCauses.any (c : PauseCauses) : Bool := c.station || c.rail || c.line

/-- What follows the end of a void settle (R61). -/
def decideAfterSettle (s : State) : State :=
  if s.campaign.causes.any || s.campaign.pausePending then enterPaused s else startPlanBuild s

/-- The epoch closes (R115); a normal close sets the consecutive-void count to 0 (R143). -/
def closeEpoch (normal : Bool) (s : State) : State :=
  decideAfterClose
    ((s.onEpoch fun e => { e with timer := none, lastEnded := some (e.number, .closed) }).onRail fun r =>
      { r with consecutive := if normal then 0 else r.consecutive })

/-! ## Void -/

/-- Void causes (R116). -/
inductive VoidCause where
  | rail | line
deriving DecidableEq, Repr

/-- The RAIL_VOID presentation of an epoch (R142). -/
def railVoidPresentation (epoch : Nat) : Presentation := ⟨.railVoid, none, none, epoch, none⟩

/-- The LINE_STUCK presentation (R155). -/
def lineStuckPresentation (epoch : Nat) : Presentation := ⟨.lineStuck, none, none, epoch, none⟩

/-- The RAIL cause is placed when the consecutive-void count has reached P15 (R142, step 3). -/
def placeRailCause (s : State) : State :=
  if s.p 14 ≤ s.rail.consecutive then
    s.onCampaign fun c => { c with causes := { c.causes with rail := true } }
  else s

/-- The Rail Monitor is told of a void (R142). -/
def countVoid (cause : VoidCause) (s : State) : State :=
  match cause with
  | .line => s.onRail fun r => { r with voidTotal := satInc 65535 r.voidTotal }
  | .rail =>
      placeRailCause (present (railVoidPresentation s.epoch.number) (s.onRail fun r =>
        { r with voidTotal := satInc 65535 r.voidTotal, consecutive := satInc 255 r.consecutive }))

/-- The epoch enters VOID: strobes low, the settle of P6 ms timed, the Rail Monitor told (R116). -/
def enterVoid (cause : VoidCause) (s : State) : State :=
  countVoid cause (s.onEpoch fun e =>
    { e with qstb := false, dstb := false, state := .void, timer := some (s.p 5 * 1000) })

/-! ## Signals to the Campaign Controller -/

/-- A station change (R66). -/
def stationChange (s : State) : State :=
  match s.campaign.state with
  | .running =>
      s.onCampaign fun c => { c with causes := { c.causes with station := true }, pausePending := true }
  | .waiting => enterPaused (s.onCampaign fun c => { c with causes := { c.causes with station := true } })
  | .paused => s.onCampaign fun c => { c with causes := { c.causes with station := true } }
  | .idle | .done | .aborted => s

/-- The LINE cause is added. -/
def addLineCause (s : State) : State := s.onCampaign fun c => { c with causes := { c.causes with line := true } }

/-- A line fault (R67, R93, R116, R117). -/
def lineFault (s : State) : State :=
  match s.campaign.state with
  | .running =>
      match s.epoch.state with
      | .announce | .phase1 | .gap | .phase2 | .collecting | .grace => enterVoid .line (addLineCause s)
      | .planning => (addLineCause s).onEpoch fun e => { e with buildVoid := true }
      | .void | .none => addLineCause s
  | .waiting => enterPaused (addLineCause s)
  | .paused => addLineCause s
  | .idle | .done | .aborted => s

/-- A record made a transition into ACTIVE: in WAITING a plan build starts (R68). -/
def transitionIntoActive (s : State) : State :=
  if s.campaign.state = .waiting then
    startPlanBuild (showLamps (s.onCampaign fun c => { c with waitTimer := none, state := .running }))
  else s

/-- A map edit signalled in DONE or ABORTED (R45); a pending return is applied on entry to IDLE (R148). -/
def mapEdit (s : State) : State :=
  if s.campaign.state = .done ∨ s.campaign.state = .aborted then
    showLamps (applyReturn
      ((({ s with results := Results.cleared, findings := Findings.cleared }).onCampaign fun c =>
        { c with state := .idle, result := .none, certified := false })))
  else s

/-! ## Misses and report standing -/

/-- A record after a miss, with P8 as it stands (R29). -/
def NodeRecord.missed (r : NodeRecord) (p8 : Nat) : NodeRecord :=
  { r with
    misses := satInc 7 r.misses
    state := if r.state = .active ∧ p8 ≤ satInc 7 r.misses then .lapsed else r.state }

/-- A probe takes one miss (R29). -/
def takeMiss (n : Slot) (s : State) : State :=
  s.onNodes fun nt => { nt with probes := nt.probes.change n (·.missed (s.p 7)) }

/-- Report standings (R106). -/
inductive Standing where
  | notTakingPart | fetching | released | owed | complete
deriving DecidableEq, Repr

/-- The standing of a probe; none where no row of R106 holds. -/
def standing (s : State) (n : Slot) : Option Standing :=
  if (s.planner.duties.at n).isEmpty then some .notTakingPart
  else if s.epoch.state = .announce then some .fetching
  else if s.epoch.released.at n then some .released
  else if (s.nodes.probes.at n).fetchComplete then
    if (s.nodes.probes.at n).cursor < (s.planner.entries.at n).length then some .owed
    else if (s.nodes.probes.at n).cursor = (s.planner.entries.at n).length then some .complete
    else none
  else none

/-- The probe addresses, ascending. -/
def allSlots : List Slot := List.finRange 20

end Sys2Proof.Machine
end

