-- ==== Sys2Proof/Machine/Layouts.lean ====
section
/-! DEFINITION. The payloads the part sends: duty, result and finding records, status pages, certificate
pages, and the bodies of nonvolatile slots (R179, R180, R181). -/

namespace Sys2Proof.Machine

/-- An optional number is sent as 0 when absent (R177). -/
def orZero (n : Option Nat) : Nat := n.getD 0

/-- A duty record (R179). -/
def Duty.bytes (d : Duty) : List Byte :=
  match d.kind with
  | .drive lane seed =>
      [byteOf d.index, 1#8, byteOf d.trial] ++ be16 d.leg ++ [byteOf lane] ++ be16 seed
  | .listen expected set =>
      [byteOf d.index, 2#8, byteOf d.trial] ++ be16 d.leg ++ [byteOf expected, byteOf set.length]
        ++ (match set with
            | [a, b] => [byteOf a, byteOf b, 255#8]
            | [a, b, c] => [byteOf a, byteOf b, byteOf c]
            | _ => [255#8, 255#8, 255#8])

/-- A result record (R179). -/
def resultBytes (l : LegIx) (r : LegResult) : List Byte :=
  be16 l ++ [byteOf r.verdict.code, r.flags, byteOf r.attempts] ++ be16 (orZero r.margin)
    ++ [byteOf (orZero r.errorCount), byteOf (orZero (r.signalLane.map (·.val)))] ++ be16 (orZero r.lastEpoch)

/-- A finding record (R179). -/
def findingBytes (index count : Nat) (f : Finding) : List Byte :=
  [byteOf index, byteOf count, byteOf f.kind.code, f.presence,
   byteOf (orZero (f.laneEnd.map (·.slot.val))), byteOf (orZero (f.laneEnd.map (·.lane.val)))]
    ++ be16 (orZero (f.owner.map (·.val))) ++ [byteOf (orZero (f.signalLane.map (·.val)))]
    ++ be16 f.firstEpoch ++ [byteOf f.hits] ++ be16 (orZero f.peak)

/-- The nine settled-verdict counts, two bytes each, PASS to UNTESTED (R180, R181). -/
def countBytes (counts : Table Nat 9) : List Byte := counts.toList.flatMap be16

/-- STATUS page 0: the campaign (R161, R180). -/
def statusPage0 (s : State) : List Byte :=
  [byteOf s.campaign.state.code, s.campaign.flags, byteOf s.campaign.number] ++ be16 s.epoch.number
    ++ [byteOf s.epoch.state.code] ++ be16 s.planner.queue.length ++ [byteOf (heldTrials s).length]
    ++ countBytes s.results.counts ++ [byteOf s.findings.list.length] ++ be16 s.findings.overflow

/-- STATUS page 1: supervision and the line (R162, R180). -/
def statusPage1 (s : State) : List Byte :=
  [s.conditions, byteOf s.campaign.lastReset.code] ++ be16 s.rail.sagCount ++ be16 s.rail.voidTotal
    ++ [byteOf s.rail.consecutive] ++ be16 s.timebase.lossCount
    ++ be16 s.port.checkErrors ++ be16 s.port.framingErrors ++ be16 s.port.noiseEvents
    ++ be16 s.port.breaks ++ be16 s.port.collisions ++ be16 s.port.lineFaults

/-- The validation error record on page 2: kind, link, end, other link (R180). -/
def ValError.bytes : ValError → List Byte
  | .none => [0#8] ++ be16 0 ++ [0#8] ++ be16 0
  | .sameSlot k => [1#8] ++ be16 k ++ [0#8] ++ be16 0
  | .doubleEnd k which j => [2#8] ++ be16 k ++ [if which = .a then 0#8 else 1#8] ++ be16 j
  | .empty => [3#8] ++ be16 0 ++ [0#8] ++ be16 0

/-- The last NV result on page 2: outcome, operation, slot (R180). -/
def NvResult.bytes (r : NvResult) : List Byte :=
  match r.work with
  | some (op, n) => [byteOf r.outcome.code, op.byte, byteOf n]
  | Option.none => [byteOf r.outcome.code, 0#8, 0#8]

/-- STATUS page 2: the map and the nonvolatile store (R163, R180). -/
def statusPage2 (s : State) : List Byte :=
  [byteOf s.map.status.code] ++ s.map.error.bytes ++ be16 s.map.inUse
    ++ [byteOf (originCode s.map.origin), byteOf s.nv.state.code] ++ s.nv.last.bytes
    ++ [marksByte s.nv.gens, marksByte s.nv.certs, byteOf (flag s.nv.fallback 1)]

/-- How many of four slots bear a mark (R34, R164). -/
def marked (f : NvSlot → Bool) (slots : Table NvSlot 4) : Nat := slots.toList.countP f

/-- The payload of IDENT (R34, R179). -/
def identBytes (nv : NvStore) : List Byte :=
  be16 Config.vendorCode ++ be16 Config.partCode ++ [byteOf Config.revision,
    byteOf (marked (·.begun) nv.gens), byteOf (marked (·.done) nv.gens),
    byteOf (marked (·.begun) nv.certs), byteOf (marked (·.done) nv.certs)]

/-- The body of map generation slot n, with its check value (R168, R181). -/
def generationBody (n : NvIx) (links : Table LinkRecord 480) : List Byte :=
  withCheck (byteOf (n.val + 1) :: links.toList.flatMap LinkRecord.bytes)

/-- The body of certificate slot c, with its check value (R172, R181). -/
def certificateBody (c : NvIx) (tag : List Byte) (s : State) : List Byte :=
  withCheck
    ([byteOf c, byteOf s.campaign.number, byteOf (originCode s.campaign.origin)]
      ++ countBytes s.results.counts ++ [byteOf s.findings.list.length] ++ be16 s.findings.overflow
      ++ be16 s.rail.voidTotal ++ be16 s.port.lineFaults ++ be16 s.timebase.lossCount
      ++ be16 s.results.degraded ++ [byteOf s.campaign.result.code] ++ tag)

/-- A run of stored bytes. -/
def slice (body : List Byte) (start count : Nat) : List Byte :=
  (List.range count).map fun i => byteAt body (start + i)

/-- A certificate page, taken from the stored bytes as they stand (R173, R181). -/
def certificatePage (body : List Byte) (page : Nat) : List Byte :=
  let integrity := byteOf (flag (!intact body) 1)
  if page = 0 then
    [byteAt body 0, 0#8, integrity, byteAt body 1, byteAt body 2] ++ slice body 3 18 ++ [byteAt body 32]
  else [byteAt body 0, 1#8, integrity] ++ slice body 21 11 ++ slice body 33 8

end Sys2Proof.Machine
end

