-- ==== Sys2Proof/Machine/NvStore.lean ====
section
/-! DEFINITION. The NV Store Controller: burns, certificates, their completions, the choice of the generation to
load (chapter 10). -/

namespace Sys2Proof.Machine

/-- A slot never used (R164). -/
def NvSlot.isFree (n : NvSlot) : Bool := !n.begun && !n.done

/-- A slot completed with a good verify (R164). -/
def NvSlot.isDone (n : NvSlot) : Bool := n.begun && n.done

/-- The slots in ascending order. -/
def nvSlots : List NvIx := [0, 1, 2, 3]

/-- The lowest-numbered FREE slot (R164). -/
def lowestFree (slots : Table NvSlot 4) : Option NvIx := nvSlots.find? fun n => (slots.at n).isFree

/-- The campaign state lets the map be written, validated or burned: IDLE, DONE or ABORTED. -/
def CampaignState.settled : CampaignState → Bool
  | .idle | .done | .aborted => true
  | .running | .waiting | .paused => false

/-- A MAP_BURN takes slot n (R168). -/
def beginBurn (n : NvIx) (s : State) : State :=
  s.onNv fun nv =>
    { nv with
      gens := nv.gens.change n fun x => { x with begun := true }
      state := .burning
      last := ⟨.pending, some (.mapBurn, n)⟩
      write := some ⟨n, generationBody n s.map.links⟩ }

/-- The NV Store Controller answers a MAP_BURN that has passed R30 (R167, R168). -/
def answerMapBurn (payload : List Byte) (s : State) : State × Answer :=
  if payload ≠ [] then (s, .refusal .malformed)
  else if ¬(s.map.status = .valid ∧ s.campaign.state.settled) then (s, .refusal .state)
  else if s.nv.state ≠ .idle then (s, .refusal .busy)
  else
    match lowestFree s.nv.gens with
    | none => (s, .refusal .full)
    | some n => (beginBurn n s, ⟨.accepted, [byteOf n, byteOf (n.val + 1)]⟩)

/-- The bytes read back: those written, but where the medium gives another byte (R169, log entry 12). -/
def readBack (flaws : List (Nat × Byte)) (bytes : List Byte) : List Byte :=
  flaws.foldl (fun b f => b.set f.1 f.2) bytes

/-- The slot verifies: every byte reads back as written, and the check value holds (R169, R171). -/
def verifies (flaws : List (Nat × Byte)) (bytes : List Byte) : Bool :=
  readBack flaws bytes == bytes && intact (readBack flaws bytes)

/-- A slot after its write: the stored bytes, and the done mark on a good verify (R164, R169, R171). -/
def NvSlot.written (n : NvSlot) (flaws : List (Nat × Byte)) (bytes : List Byte) : NvSlot :=
  { n with body := readBack flaws bytes, done := n.done || verifies flaws bytes }

/-- The NV state returns to IDLE with the outcome of the verify (R165). -/
def NvStore.finish (nv : NvStore) (good : Bool) : NvStore :=
  { nv with state := .idle, last := { nv.last with outcome := if good then .ok else .failed }, write := none }

/-- A burn completes (R169); a good one gives the map its origin (R55). -/
def burnCompletes (flaws : List (Nat × Byte)) (w : NvWrite) (s : State) : State :=
  (s.onNv fun nv =>
    { nv.finish (verifies flaws w.bytes) with
      gens := nv.gens.change w.slot fun x => x.written flaws w.bytes }).onMap fun m =>
    { m with origin := if verifies flaws w.bytes then some w.slot else m.origin }

/-- BURN_COMPLETE; it cannot come while no burn is in flight (log entry 4). -/
def completeBurn (flaws : List (Nat × Byte)) (s : State) : State :=
  match s.nv.state, s.nv.write with
  | .burning, some w => burnCompletes flaws w s
  | _, _ => s

/-- A CERT_COMMIT takes slot c; every value of the body is taken at this instant (R171). -/
def beginCertificate (c : NvIx) (tag : List Byte) (s : State) : State :=
  s.onNv fun nv =>
    { nv with
      certs := nv.certs.change c fun x => { x with begun := true }
      state := .writingCert
      last := ⟨.pending, some (.certCommit, c)⟩
      write := some ⟨c, certificateBody c tag s⟩ }

/-- The NV Store Controller answers a CERT_COMMIT that has passed R30 (R170, R171). -/
def answerCertCommit (payload : List Byte) (s : State) : State × Answer :=
  if payload.length ≠ 8 then (s, .refusal .malformed)
  else if ¬(s.campaign.state = .done ∧ s.campaign.certified = false ∧ s.campaign.origin.isSome) then
    (s, .refusal .state)
  else if s.nv.state ≠ .idle then (s, .refusal .busy)
  else
    match lowestFree s.nv.certs with
    | none => (s, .refusal .full)
    | some c => (beginCertificate c payload s, ⟨.accepted, [byteOf c]⟩)

/-- A certificate write completes (R171); a good one sets the certified flag. -/
def certificateCompletes (flaws : List (Nat × Byte)) (w : NvWrite) (s : State) : State :=
  (s.onNv fun nv =>
    { nv.finish (verifies flaws w.bytes) with
      certs := nv.certs.change w.slot fun x => x.written flaws w.bytes }).onCampaign fun c =>
    { c with certified := c.certified || verifies flaws w.bytes }

/-- CERT_WRITE_COMPLETE; it cannot come while no certificate is being written (log entry 4). -/
def completeCertificate (flaws : List (Nat × Byte)) (s : State) : State :=
  match s.nv.state, s.nv.write with
  | .writingCert, some w => certificateCompletes flaws w s
  | _, _ => s

/-- The NV Store Controller answers a CERT_READ that has passed R30 (R173). -/
def answerCertRead (payload : List Byte) (s : State) : State × Answer :=
  match payload with
  | [slot, page] =>
      if h : slot.toNat < 4 then
        if 1 < page.toNat then (s, .refusal .range)
        else if (s.nv.certs.at ⟨slot.toNat, h⟩).isDone then
          (s, ⟨.ok, certificatePage (s.nv.certs.at ⟨slot.toNat, h⟩).body page.toNat⟩)
        else (s, .refusal .state)
      else (s, .refusal .range)
  | _ => (s, .refusal .malformed)

/-! ## Loading the map (R175, R176) -/

/-- Examine slots in the order given; the flag says whether a DONE slot that is not intact was passed over. -/
def examine (gens : Table NvSlot 4) : List NvIx → Bool → Option NvIx × Bool
  | [], passed => (none, passed)
  | n :: ns, passed =>
      if (gens.at n).isDone then
        if intact (gens.at n).body then (some n, passed) else examine gens ns true
      else examine gens ns passed

/-- The generation to load and the load-fallback flag: slot 3 downward (R175). -/
def chooseGeneration (gens : Table NvSlot 4) : Option NvIx × Bool := examine gens nvSlots.reverse false

/-- n link records of stored bytes; bytes that spell no record leave the index not in use (log entry 13). -/
def readRecords : Nat → List Byte → List LinkRecord
  | 0, _ => []
  | n + 1, sa :: la :: sb :: lb :: t :: rest =>
      (linkOf sa la sb lb t).getD LinkRecord.unused :: readRecords n rest
  | n + 1, _ => LinkRecord.unused :: readRecords n []

theorem readRecords_length (n : Nat) (bytes : List Byte) : (readRecords n bytes).length = n := by
  induction n generalizing bytes with
  | zero => simp [readRecords]
  | succ n ih => unfold readRecords; split <;> simp_all

/-- The 480 records of a generation slot body: offsets 1 to 2,400 (R181). -/
def linksOfBody (body : List Byte) : Table LinkRecord 480 :=
  ⟨⟨readRecords 480 body.tail⟩, by simp [readRecords_length]⟩

/-- Enter both ends of an in-use record under its index (R56). -/
def enterEnds (occ : Table (Option LinkIx) 960) (kr : LinkIx × LinkRecord) : Table (Option LinkIx) 960 :=
  if kr.2.inUse then (occ.put kr.2.endA.index (some kr.1)).put kr.2.endB.index (some kr.1) else occ

/-- The occupancy table of a set of records (R56, R176). -/
def occupancyOf (links : Table LinkRecord 480) : Table (Option LinkIx) 960 :=
  links.indexed.foldl enterEnds allFree

/-- The Link Map Store takes the records of generation slot n as its working map (R56, R176). -/
def MapStore.loaded (n : NvIx) (links : Table LinkRecord 480) : MapStore where
  links := links
  status := .valid
  error := .none
  occupancy := occupancyOf links
  origin := some n
  inUse := countInUse links

/-- The Link Map Store after a POWER or PIN reset (R56, R175, R176). -/
def loadMap (gens : Table NvSlot 4) : MapStore :=
  match (chooseGeneration gens).1 with
  | some n => MapStore.loaded n (linksOfBody (gens.at n).body)
  | none => MapStore.empty

/-- A POWER or PIN reset stops a write in flight; its slot keeps its begun mark alone (R174). -/
def NvStore.cutOff (nv : NvStore) : NvStore := { nv with state := .idle, write := none }

/-- The NV Store Controller after a POWER or PIN reset: the slots kept, nothing in flight, the load-fallback
flag as the examination found (R165, R174, R175). -/
def NvStore.afterReset (nv : NvStore) : NvStore :=
  { nv.cutOff with last := NvResult.none, fallback := (chooseGeneration nv.gens).2 }

/-- Bytes of the store that no longer hold what was written, found at a power-up (R175, log entry 12). -/
def NvStore.decayed (nv : NvStore) (d : NvDecay) : NvStore :=
  if d.certificate then
    { nv with certs := nv.certs.change d.slot fun x => { x with body := x.body.set d.offset d.byte } }
  else { nv with gens := nv.gens.change d.slot fun x => { x with body := x.body.set d.offset d.byte } }

end Sys2Proof.Machine
end

