-- ==== Sys2Proof/Machine/MapStore.lean ====
section
/-! DEFINITION. The Link Map Store: MAP_WRITE, MAP_READ, MAP_VALIDATE, the validation scan (chapter 3). -/

namespace Sys2Proof.Machine

/-- Write records to consecutive indices (R43). -/
def writeLinks : Nat → List LinkRecord → Table LinkRecord 480 → Table LinkRecord 480
  | _, [], links => links
  | k, r :: rs, links => writeLinks (k + 1) rs (if h : k < 480 then links.put ⟨k, h⟩ r else links)

/-- An accepted MAP_WRITE: the records, the count, EDITED, origin none, every occupancy entry FREE (R43, R44). -/
def MapStore.edited (m : MapStore) (start : Nat) (records : List LinkRecord) : MapStore :=
  let links := writeLinks start records m.links
  { m with links := links, inUse := countInUse links, status := .edited, origin := none, occupancy := allFree }

/-- The payload length of a MAP_WRITE is that of an index and 1 to 5 whole records (R41, R178). -/
def mapWriteLength (n : Nat) : Bool := n == 7 || n == 12 || n == 17 || n == 22 || n == 27

/-- The Link Map Store answers a MAP_WRITE that has passed R30 (R41 to R45). -/
def answerMapWrite (payload : List Byte) (s : State) : State × Answer :=
  if ¬mapWriteLength payload.length then (s, .refusal .malformed)
  else
    match payload with
    | hi :: lo :: rest =>
        match linksOf rest with
        | none => (s, .refusal .range)
        | some records =>
            if 480 < num16 hi lo + records.length then (s, .refusal .range)
            else if ¬s.campaign.state.settled then (s, .refusal .state)
            else if s.map.status = .checking ∨ s.nv.state ≠ .idle then (s, .refusal .busy)
            else
              (mapEdit (s.onMap fun m => m.edited (num16 hi lo) records),
               ⟨.ok, byteOf records.length :: be16 (s.map.edited (num16 hi lo) records).inUse⟩)
    | _ => (s, .refusal .malformed)

/-- The records at n consecutive indices, in the form of MAP_WRITE (R46). -/
def readLinks (m : MapStore) (start n : Nat) : List Byte :=
  ((m.links.toList.drop start).take n).flatMap LinkRecord.bytes

/-- The Link Map Store answers a MAP_READ that has passed R30 (R46). -/
def answerMapRead (payload : List Byte) (s : State) : State × Answer :=
  match payload with
  | [hi, lo, n] =>
      if n.toNat < 1 ∨ 5 < n.toNat ∨ 480 < num16 hi lo + n.toNat then (s, .refusal .range)
      else (s, ⟨.ok, [hi, lo] ++ readLinks s.map (num16 hi lo) n.toNat⟩)
  | _ => (s, .refusal .malformed)

/-- A validation begins (R48). DESIGN CHOICE (log entry 29): R53 leaves open when a scan in flight fills an entry, and
the table stays all FREE until the scan ends. -/
def MapStore.checking (m : MapStore) : MapStore :=
  { m with status := .checking, error := .none, occupancy := allFree }

/-- The Link Map Store answers a MAP_VALIDATE that has passed R30 (R48). -/
def answerMapValidate (payload : List Byte) (s : State) : State × Answer :=
  if payload ≠ [] then (s, .refusal .malformed)
  else if ¬s.campaign.state.settled then (s, .refusal .state)
  else if s.map.status = .checking ∨ s.nv.state ≠ .idle then (s, .refusal .busy)
  else (s.onMap MapStore.checking, ⟨.accepted, []⟩)

/-- The scan (R49): the error it stops at, or the occupancy table it built. -/
def scanRecords : List (LinkIx × LinkRecord) → Table (Option LinkIx) 960 →
    Except ValError (Table (Option LinkIx) 960)
  | [], occ => .ok occ
  | (k, r) :: rest, occ =>
      if r.inUse then
        if r.endA.slot = r.endB.slot then .error (.sameSlot k)
        else
          match occ.at r.endA.index with
          | some j => .error (.doubleEnd k .a j)
          | none =>
              match (occ.put r.endA.index (some k)).at r.endB.index with
              | some j => .error (.doubleEnd k .b j)
              | none => scanRecords rest ((occ.put r.endA.index (some k)).put r.endB.index (some k))
      else scanRecords rest occ

/-- The scan of the working map, from index 0 upward (R49). -/
def MapStore.scan (m : MapStore) : Except ValError (Table (Option LinkIx) 960) :=
  scanRecords m.links.indexed allFree

/-- The map when the scan ends (R50, R51). DESIGN CHOICE (log entry 29): the scan's entries are filled at this instant
alone. -/
def MapStore.scanned (m : MapStore) : MapStore :=
  match m.scan with
  | .error e => { m with status := .faulty, error := e, occupancy := allFree }
  | .ok occ =>
      if m.inUse = 0 then { m with status := .faulty, error := .empty, occupancy := allFree }
      else { m with status := .valid, occupancy := occ }

/-- SCAN_COMPLETE; it cannot come while no scan is in flight (log entry 4). -/
def completeScan (s : State) : State := if s.map.status = .checking then s.onMap MapStore.scanned else s

/-- The map after a RESTART: kept, a scan in flight abandoned (R52, R56). DEDUCED (log entry 28): R51 has every reset
set the error record to none "as told in Map State after Reset", and that section keeps it on a RESTART (R56). -/
def MapStore.afterRestart (m : MapStore) : MapStore :=
  if m.status = .checking then { m with status := .edited, error := .none, occupancy := allFree } else m

end Sys2Proof.Machine
end

