-- ==== Sys2Proof/Machine/NodeTable.lean ====
section
/-! DEFINITION. The Node Table: the acceptance tests, ENROL, LEAVE, ARM, IDENT, the presence filters
(chapter 2). -/

namespace Sys2Proof.Machine

/-! ## Acceptance by enrolment and role (R30) -/

/-- The record of a sender. -/
def NodeTable.record (nt : NodeTable) : Sender → NodeRecord
  | .probe n => nt.probes.at n
  | .station => nt.station

/-- A sender is enrolled: a probe record ACTIVE or LAPSED, the station record ACTIVE (R30, step 1). -/
def NodeTable.enrolled (nt : NodeTable) : Sender → Bool
  | .probe n => (nt.probes.at n).state != .absent
  | .station => nt.station.state == .active

/-- Kinds open to every sender (R30, step 1). -/
def openToAll : RequestKind → Bool
  | .enrol | .status | .ident => true
  | _ => false

/-- The kinds a role permits (R30, step 2). -/
def permits : Sender → RequestKind → Bool
  | .probe _, k => openToAll k || k == .leave || k == .fetch || k == .report
  | .station, k => k != .fetch && k != .report

/-- The protected kinds (R30, step 4). -/
def isProtected : RequestKind → Bool
  | .mapBurn | .certCommit | .restart => true
  | _ => false

/-- The acceptance tests every owner applies first, in order; none when all pass (R30, R33). -/
def acceptance (k : RequestKind) (who : Sender) (armed : Bool) (nt : NodeTable) : Option ReplyCode :=
  if ¬openToAll k ∧ ¬nt.enrolled who then some .notEnrolled
  else if ¬permits who k then some .role
  else if (k = .fetch ∨ k = .report) ∧ (nt.record who).state ≠ .active then some .state
  else if isProtected k ∧ ¬armed then some .unarmed
  else none

/-! ## ENROL (R22 to R26) -/

/-- Set one probe record. -/
def setProbe (n : Slot) (r : NodeRecord) (s : State) : State :=
  s.onNodes fun nt => { nt with probes := nt.probes.put n r }

/-- A probe record after an accepted ENROL (R23). -/
def NodeRecord.enrolled (r : NodeRecord) (channels : Nat) : NodeRecord :=
  { r with state := .active, misses := 0, channels := some (min channels 24) }

/-- The reply of an accepted ENROL: state and miss count held before, channel count stored (R22, R179). -/
def enrolReply (before : NodeRecord) (channels : Nat) : Answer :=
  ⟨.ok, [byteOf before.state.code, byteOf before.misses, byteOf channels]⟩

/-- An accepted ENROL from a probe (R23, R28). -/
def enrolProbe (n : Slot) (channels : Nat) (s : State) : State :=
  let s' := setProbe n ((s.nodes.probes.at n).enrolled channels) s
  if (s.nodes.probes.at n).state = .active then s' else transitionIntoActive s'

/-- How an ENROL at address 31 is admitted (R24). -/
inductive Admission where
  | fresh | again | takeover
deriving DecidableEq, Repr

/-- The holder test of R24. -/
def holderTest (nt : NodeTable) (identity : Nat) (takeover : Bool) : Option Admission :=
  if nt.station.state = .absent then some .fresh
  else if nt.holder = some identity then some .again
  else if takeover ∧ Config.silenceMicros ≤ nt.silence then some .takeover
  else none

/-- The station record after an admitted ENROL (R24). -/
def admitStation (identity : Nat) (s : State) : State :=
  s.onNodes fun nt => { nt with station := { nt.station with state := .active }, holder := some identity, silence := 0 }

/-- An admitted ENROL at address 31 (R24, R25, R28, R35). -/
def enrolStation (how : Admission) (identity : Nat) (s : State) : State :=
  match how with
  | .fresh => transitionIntoActive (admitStation identity s)
  | .again => admitStation identity s
  | .takeover => stationChange (admitStation identity s)

/-- The Node Table answers an ENROL (R22). -/
def answerEnrol (who : Sender) (payload : List Byte) (s : State) : State × Answer :=
  match payload with
  | [role, channels, takeover, id1, id0] =>
      match who with
      | .probe n =>
          if role ≠ 1#8 then (s, .refusal .role)
          else if ¬(s.nodes.presence.at n).seated then (s, .refusal .notSeated)
          else if channels.toNat < 3 then (s, .refusal .capability)
          else (enrolProbe n channels.toNat s, enrolReply (s.nodes.probes.at n) (min channels.toNat 24))
      | .station =>
          if role ≠ 2#8 then (s, .refusal .role)
          else if num16 id1 id0 = 0 then (s, .refusal .range)
          else
            match holderTest s.nodes (num16 id1 id0) (takeover != 0#8) with
            | none => (s, .refusal .stationHeld)
            | some how => (enrolStation how (num16 id1 id0) s, enrolReply s.nodes.station 0)
  | _ => (s, .refusal .malformed)

/-! ## LEAVE, ARM, IDENT -/

/-- The station leaves: record ABSENT, holder absent, silence timer stopped, a station change (R27, R35). -/
def stationLeaves (s : State) : State :=
  stationChange (s.onNodes fun nt =>
    { nt with station := { nt.station with state := .absent }, holder := none, silence := 0 })

/-- A probe's record becomes ABSENT, everything else of it kept (R21, R27). -/
def probeLeaves (n : Slot) (s : State) : State :=
  setProbe n { s.nodes.probes.at n with state := .absent } s

/-- The Node Table answers a LEAVE that has passed R30 (R27). -/
def answerLeave (who : Sender) (payload : List Byte) (s : State) : State × Answer :=
  if payload ≠ [] then (s, .refusal .malformed)
  else
    match who with
    | .probe n => (probeLeaves n s, ⟨.ok, []⟩)
    | .station => (stationLeaves s, ⟨.ok, []⟩)

/-- The Node Table answers an ARM that has passed R30 (R32). -/
def answerArm (payload : List Byte) (s : State) : State × Answer :=
  match payload with
  | [k] =>
      match armKindOf k with
      | some a => (s.onPort fun p => { p with arm := some a }, ⟨.ok, []⟩)
      | none => (s, .refusal .range)
  | _ => (s, .refusal .malformed)

/-- The Node Table answers an IDENT (R34). -/
def answerIdent (payload : List Byte) (s : State) : State × Answer :=
  if payload ≠ [] then (s, .refusal .malformed) else (s, ⟨.ok, identBytes s.nv⟩)

/-! ## Presence (R20, R21) -/

/-- Set one presence filter. -/
def setPresence (n : Slot) (f : PresenceFilter) (s : State) : State :=
  s.onNodes fun nt => { nt with presence := nt.presence.put n f }

/-- A filter after the level on its pin becomes `low`: a level that departs from the filtered state starts the
10 ms, one that returns abandons it (R20). -/
def PresenceFilter.level (f : PresenceFilter) (low : Bool) : PresenceFilter :=
  if f.low = low then f
  else { f with low := low, running := if low = f.seated then none else some Config.presenceMicros }

/-- The level on PRESn changes (R20). -/
def presenceDeparts (n : Slot) (low : Bool) (s : State) : State :=
  setPresence n ((s.nodes.presence.at n).level low) s

/-- The level on a pin during a reset: the pin alone, since the filter starts afresh at its end (R20, R76). -/
def presencePin (n : Slot) (low : Bool) (s : State) : State :=
  setPresence n { s.nodes.presence.at n with low := low } s

/-- Slot n becomes SEATED; no node record changes (R20). -/
def presenceSeats (n : Slot) (s : State) : State :=
  if (s.nodes.presence.at n).seated then s else setPresence n ⟨true, true, none⟩ s

/-- Slot n becomes EMPTY; an enrolled probe record becomes ABSENT (R21). -/
def presenceLost (n : Slot) (s : State) : State :=
  if (s.nodes.presence.at n).seated then probeLeaves n (setPresence n ⟨false, false, none⟩ s) else s

end Sys2Proof.Machine
end

