-- ==== Sys2Proof/Machine/Campaign.lean ====
section
/-! DEFINITION. The Campaign Controller: START, PAUSE, RESUME, ABORT, WAITING, parameters, RESTART, the lamp
blink (chapter 4). -/

namespace Sys2Proof.Machine

/-- No cause stands in the set. -/
def StartCauses.isEmpty (c : StartCauses) : Bool := c == StartCauses.empty

/-- The causes that stand in the way of a START, at this instant (R58). -/
def startCauses (s : State) : StartCauses where
  map := s.map.status != .valid
  nv := s.nv.state != .idle
  rail := s.rail.state == .sag
  line := s.port.line == .stuck
  nodes := s.nodes.probes.toList.all (fun r => r.state != .active)
  running := false

/-- Steps 1 and 2 of an accepted START: results, findings, supervision counts and references (R59). -/
def clearForStart (s : State) : State :=
  ((({ s with results := Results.cleared, findings := Findings.cleared }).onRail fun r =>
    { r with voidTotal := 0, consecutive := 0, sagCount := 0 }).onTimebase fun t =>
    { t with lossCount := 0 }).onPort (fun p => { p with lineFaults := 0 })
    |>.onGrading fun g => { g with refs := Table.fill 20 (s.p 11 * 256) }

/-- Steps 3 to 8 of an accepted START: the campaign record, the queue, the epoch number (R59). -/
def openCampaign (s : State) : State :=
  (((s.onCampaign fun c =>
    { c with
      retestLimit := s.p 6
      origin := s.map.origin
      number := satInc 255 c.number
      certified := false
      result := .none
      causes := PauseCauses.empty
      pausePending := false
      state := .running }).onPlanner fun p =>
    { p with queue := s.map.legList }).onEpoch fun e =>
    { e with number := 0, lastEnded := none })

/-- An accepted CAMPAIGN_START (R59). -/
def startCampaign (s : State) : State := startPlanBuild (showLamps (openCampaign (clearForStart s)))

/-- The Campaign Controller answers a CAMPAIGN_START that has passed R30 (R58, R59). -/
def answerStart (payload : List Byte) (s : State) : State × Answer :=
  if payload ≠ [] then (s, .refusal .malformed)
  else if s.campaign.state.live then (s, ⟨.state, [StartCauses.runningOnly.byte]⟩)
  else if ¬(startCauses s).isEmpty then (s, ⟨.state, [(startCauses s).byte]⟩)
  else (startCampaign s, ⟨.ok, byteOf (satInc 255 s.campaign.number) :: be16 s.map.legList.length⟩)

/-- The Campaign Controller answers a CAMPAIGN_PAUSE that has passed R30 (R62). -/
def answerPause (payload : List Byte) (s : State) : State × Answer :=
  if payload ≠ [] then (s, .refusal .malformed)
  else
    match s.campaign.state with
    | .running => (s.onCampaign fun c => { c with pausePending := true }, ⟨.ok, []⟩)
    | .waiting => (enterPaused s, ⟨.ok, []⟩)
    | .paused => (s, ⟨.ok, []⟩)
    | .idle | .done | .aborted => (s, .refusal .state)

/-- The causes a RESUME in PAUSED meets (R63). -/
def resumeCauses (s : State) : StartCauses :=
  { StartCauses.empty with rail := s.rail.state == .sag, line := s.port.line == .stuck }

/-- An accepted CAMPAIGN_RESUME (R63). -/
def resumeCampaign (s : State) : State :=
  startPlanBuild (showLamps (s.onCampaign fun c =>
    { c with causes := PauseCauses.empty, pausePending := false, state := .running }))

/-- The Campaign Controller answers a CAMPAIGN_RESUME that has passed R30 (R63). -/
def answerResume (payload : List Byte) (s : State) : State × Answer :=
  if payload ≠ [] then (s, .refusal .malformed)
  else
    match s.campaign.state with
    | .running | .waiting => (s, ⟨.state, [StartCauses.runningOnly.byte]⟩)
    | .idle | .done | .aborted => (s, ⟨.state, [StartCauses.empty.byte]⟩)
    | .paused =>
        if (resumeCauses s).isEmpty then (resumeCampaign s, ⟨.ok, []⟩)
        else (s, ⟨.state, [(resumeCauses s).byte]⟩)

/-- An accepted CAMPAIGN_ABORT (R64); a pending return is applied on entry to ABORTED (R148). -/
def abortCampaign (s : State) : State :=
  showLamps (applyReturn (((endEpochWork s).onPlanner fun p => { p with queue := [] }).onCampaign fun c =>
    { c with state := .aborted, waitTimer := none, causes := PauseCauses.empty, pausePending := false }))

/-- The Campaign Controller answers a CAMPAIGN_ABORT that has passed R30 (R64). -/
def answerAbort (payload : List Byte) (s : State) : State × Answer :=
  if payload ≠ [] then (s, .refusal .malformed)
  else if s.campaign.state.live then (abortCampaign s, ⟨.ok, []⟩)
  else (s, .refusal .state)

/-! ## WAITING -/

/-- A record settled UNTESTED (R151). -/
def LegResult.untested (r : LegResult) : LegResult :=
  { r with verdict := .untested, settled := true, signalLane := none }

/-- One pending leg is settled UNTESTED (R69, R151, R152). -/
def settleUntested (rs : Results) (l : LegIx) : Results :=
  (rs.write l (rs.records.at l).untested).count .untested

/-- The wait timer runs out in WAITING (R69). -/
def waitExpires (s : State) : State :=
  if s.campaign.state = .waiting then
    enterDone ((s.onResults fun rs => s.planner.queue.foldl settleUntested rs).onPlanner fun p =>
      { p with queue := [] })
  else s

/-! ## Parameters -/

/-- What a parameter number names: P1 to P16, or a threshold of a class (R72). -/
inductive ParamRef where
  | general (i : Fin 16)
  | threshold (c f : Fin 4)
deriving DecidableEq, Repr

/-- The parameter of a number in use: 1 to 16 and 32 to 47 (R72). -/
def paramOf (n : Nat) : Option ParamRef :=
  if h : 1 ≤ n ∧ n ≤ 16 then some (.general ⟨n - 1, by omega⟩)
  else if h : 32 ≤ n ∧ n ≤ 47 then some (.threshold ⟨(n - 32) / 4, by omega⟩ ⟨(n - 32) % 4, by omega⟩)
  else none

/-- The ranges of P1 to P16 (R72). -/
def generalRange : Table (Nat × Nat) 16 :=
  #v[(1, 250), (1, 200), (1, 200), (0, 50), (0, 1), (5, 250), (0, 3), (1, 7), (0, 255), (0, 255), (1, 255),
    (0, 65535), (1, 60), (1, 255), (1, 15), (1, 255)]

/-- A value brought into a range (R73). -/
def clamp (range : Nat × Nat) (v : Nat) : Nat := max range.1 (min range.2 v)

/-- One of a class's stored values: T_open, T_pass, T_iso, E_max (R72). -/
def Thresholds.field (t : Thresholds) (f : Fin 4) : Nat :=
  if f = 0 then t.tOpen else if f = 1 then t.tPass else if f = 2 then t.tIso else t.eMax

/-- Store one of a class's values after its clamps (R74). -/
def Thresholds.store (t : Thresholds) (f : Fin 4) (v : Nat) : Thresholds :=
  if f = 0 then { t with tOpen := min (clamp (1, 4095) v) t.tPass }
  else if f = 1 then { t with tPass := clamp (1, 4095) v }
  else if f = 2 then { t with tIso := min (clamp (1, 4095) v) t.tPass }
  else { t with eMax := min v 254 }

/-- The stored value of a parameter. -/
def Params.get (ps : Params) : ParamRef → Nat
  | .general i => ps.general.at i
  | .threshold c f => (ps.thresholds.at c).field f

/-- Store a parameter after clamping (R73, R74). -/
def Params.store (ps : Params) (r : ParamRef) (v : Nat) : Params :=
  match r with
  | .general i => { ps with general := ps.general.put i (clamp (generalRange.at i) v) }
  | .threshold c f => { ps with thresholds := ps.thresholds.change c (·.store f v) }

/-- The campaign state refuses a PARAM request: RUNNING, WAITING, and P7 in PAUSED (R73, step 3). -/
def paramBarred (s : State) (n : Nat) : Bool :=
  s.campaign.state == .running || s.campaign.state == .waiting || (s.campaign.state == .paused && n == 7)

/-- The Campaign Controller answers a PARAM_SET that has passed R30 (R73, R74). -/
def answerParamSet (payload : List Byte) (s : State) : State × Answer :=
  match payload with
  | [n, hi, lo] =>
      match paramOf n.toNat with
      | none => (s, .refusal .range)
      | some r =>
          if paramBarred s n.toNat then (s, .refusal .state)
          else
            (s.onCampaign fun c => { c with params := c.params.store r (num16 hi lo) },
             ⟨.ok, n :: be16 ((s.campaign.params.store r (num16 hi lo)).get r)⟩)
  | _ => (s, .refusal .malformed)

/-- The Campaign Controller answers a PARAM_GET that has passed R30 (R75). -/
def answerParamGet (payload : List Byte) (s : State) : State × Answer :=
  match payload with
  | [n] =>
      match paramOf n.toNat with
      | none => (s, .refusal .range)
      | some r =>
          if paramBarred s n.toNat then (s, .refusal .state)
          else (s, ⟨.ok, n :: be16 (s.campaign.params.get r)⟩)
  | _ => (s, .refusal .malformed)

/-! ## RESTART and the lamp blink -/

/-- The Campaign Controller answers a RESTART that has passed R30 (R77); the reset waits for the end of the
reply (R18). -/
def answerRestart (payload : List Byte) (s : State) : State × Answer :=
  if payload ≠ [] then (s, .refusal .malformed)
  else if s.nv.state ≠ .idle then (s, .refusal .busy)
  else (s.onCampaign fun c => { c with restartDue := true }, ⟨.ok, []⟩)

/-- The 500 ms period of LRUN runs out in PAUSED (R71). -/
def blinkLamp (s : State) : State :=
  if s.campaign.state = .paused then
    s.onCampaign fun c =>
      { c with lamps := { c.lamps with run := !c.lamps.run }, blinkTimer := some Config.blinkMicros }
  else s

end Sys2Proof.Machine
end

