-- ==== Sys2Proof/Machine/Planner.lean ====
section
/-! DEFINITION. The Epoch Planner: the scan, the plan end, duty lists and entry lists (chapter 5). -/

namespace Sys2Proof.Machine

/-- The four conditions by which an admitted trial blocks a candidate with the given ends (R89). -/
def blocks (y : Trial) (driver receiver : LaneEnd) : Bool :=
  (driver.slot == y.driver.slot && apart driver.lane y.driver.lane ≤ 1)
    || (receiver.slot == y.receiver.slot && apart receiver.lane y.receiver.lane ≤ 2)
    || (driver.slot == y.receiver.slot && apart driver.lane y.receiver.lane ≤ 1)
    || (receiver.slot == y.driver.slot && apart receiver.lane y.driver.lane ≤ 1)

/-- A node's channel count in the snapshot, if it is in it (R86). -/
def channelsIn (snapshot : List (Slot × Nat)) (n : Slot) : Option Nat :=
  (snapshot.find? (fun nc => nc.1 == n)).map (·.2)

/-- Drive duties given to a node so far (R90). -/
def drivesAt (adm : List Trial) (n : Slot) : Nat := adm.countP (fun t => t.driver.slot == n)

/-- Listen lanes given to a node so far (R90). -/
def listensAt (adm : List Trial) (n : Slot) : Nat :=
  ((adm.filter (fun t => t.receiver.slot == n)).map (fun t => t.listen.length)).sum

/-- A candidate with the given ends is admitted beside the trials admitted so far (R88, R90). -/
def fits (snapshot : List (Slot × Nat)) (adm : List Trial) (driver receiver : LaneEnd) : Bool :=
  match channelsIn snapshot driver.slot, channelsIn snapshot receiver.slot with
  | some _, some channels =>
      adm.length < 32 && drivesAt adm driver.slot < 8
        && listensAt adm receiver.slot + (listenSet receiver.lane).length ≤ channels
        && !adm.any (fun y => blocks y driver receiver)
  | _, _ => false

/-- The trial of an admitted leg, HELD (R83, R84). -/
def newTrial (m : MapStore) (number : Nat) (l : LegIx) : Trial where
  number := number
  leg := l
  driver := m.driverEnd l
  receiver := m.receiverEnd l
  listen := listenSet (m.receiverEnd l).lane
  state := .held

/-- One candidate of the scan: admitted as the next trial, or skipped (R88). -/
def admitLeg (m : MapStore) (snapshot : List (Slot × Nat)) (adm : List Trial) (l : LegIx) : List Trial :=
  if fits snapshot adm (m.driverEnd l) (m.receiverEnd l) then adm ++ [newTrial m adm.length l] else adm

/-- The scan of the pending queue, from head to tail (R88). -/
def scanQueue (m : MapStore) (snapshot : List (Slot × Nat)) (queue : List LegIx) : List Trial :=
  queue.foldl (admitLeg m snapshot) []

/-- The pattern seed of a drive duty (R96). -/
def patternSeed (epoch : Nat) (l : LegIx) : Nat :=
  if (epoch * 1024 + l.val) % 65536 = 0 then 1 else (epoch * 1024 + l.val) % 65536

/-- The drive duty of a trial. -/
def driveDuty (epoch : Nat) (t : Trial) : Duty := ⟨0, t.number, t.leg, .drive t.driver.lane (patternSeed epoch t.leg)⟩

/-- The listen duty of a trial. -/
def listenDuty (t : Trial) : Duty := ⟨0, t.number, t.leg, .listen t.receiver.lane t.listen⟩

/-- The duty list of a node: drives, then listens, each in ascending trial number, numbered from 0 (R94). -/
def dutiesOf (epoch : Nat) (trials : List Trial) (n : Slot) : List Duty :=
  (((trials.filter (fun t => t.driver.slot == n)).map (driveDuty epoch)
    ++ (trials.filter (fun t => t.receiver.slot == n)).map listenDuty).zipIdx).map fun di =>
    { di.1 with index := di.2 }

/-- The entries a duty owes (R95). -/
def entriesOfDuty (d : Duty) : List Entry :=
  match d.kind with
  | .drive lane _ => [⟨.drive, lane, d.trial⟩]
  | .listen expected set => set.map fun l => ⟨if l = expected then .expected else .neighbour, l, d.trial⟩

/-- The entry list of a duty list (R95). -/
def entriesOf (duties : List Duty) : List Entry := duties.flatMap entriesOfDuty

/-- The result of a plan build, made at the plan end (R91, R94, R95). -/
def makePlan (s : State) : State :=
  let trials := scanQueue s.map s.planner.snapshot s.planner.queue
  s.onPlanner fun p =>
    { p with
      queue := p.queue.filter (fun l => !trials.any (fun t => t.leg == l))
      trials := trials
      duties := Table.tabulate (dutiesOf s.epoch.number trials)
      entries := Table.tabulate (fun n => entriesOf (dutiesOf s.epoch.number trials n)) }

/-- A plan allowed to proceed enters ANNOUNCE (R99). -/
def beginAnnounce (s : State) : State :=
  s.onEpoch fun e => { e with state := .announce, timer := some (s.p 0 * 1000), backup := false }

/-- A plan end that admitted nothing (R92). -/
def emptyPlan (s : State) : State :=
  if s.planner.queue.isEmpty then enterDone (giveNumberBack s)
  else if s.campaign.pausePending then enterPaused (giveNumberBack s)
  else enterWaiting (giveNumberBack s)

/-- A plan end taken by a pending pause: the admitted legs return to the head (R60, R93). -/
def pausedPlan (s : State) : State :=
  enterPaused (giveNumberBack (returnLegs (s.planner.trials.map (·.leg)) s))

/-- The Campaign Controller decides on the plan (R60, R92, R93). -/
def decidePlan (s : State) : State :=
  if s.epoch.buildVoid then enterVoid .line s
  else if s.planner.trials.isEmpty then emptyPlan s
  else if s.campaign.pausePending then pausedPlan s
  else beginAnnounce s

/-- PLAN_END; it cannot come while no build is in flight (log entry 4). -/
def planEnds (s : State) : State := if s.epoch.state = .planning then decidePlan (makePlan s) else s

end Sys2Proof.Machine
end

