-- ==== Sys2Proof/Machine/Grading.lean ====
section
/-! DEFINITION. The Grading Unit: reference tracking, the quantities and verdict of a leg, findings, retests,
the result record (chapter 7). -/

namespace Sys2Proof.Machine

/-! ## Slot references (R120) -/

/-- A reference after one sample (R120). -/
def trackSample (kup kdn r q : Nat) : Nat :=
  if r < q * 256 then r + (q * 256 - r) * kup / 256 else r - (r - q * 256) * kdn / 256

/-- The quiet integral of a received listen entry. -/
def EntryValue.quiet : EntryValue → Option Nat
  | .drive _ => none
  | .listen q _ _ => some q

/-- The samples of a node's received entries, in entry order (R120). -/
def samplesOf (values : List EntryValue) : List Nat := values.filterMap EntryValue.quiet

/-- The reference of slot n after a completed report (R120). -/
def trackReference (n : Slot) (s : State) : State :=
  s.onGrading fun g =>
    { g with
      refs := g.refs.put n
        ((samplesOf (s.epoch.received.at n)).foldl (trackSample (s.p 8) (s.p 9)) (g.refs.at n)) }

/-! ## The quantities of a leg (R123 to R126) -/

/-- A listened lane as the Grading Unit measures it (R126). -/
structure Reading where
  lane : Lane
  /-- the scaled signal G -/
  scaled : Nat
  /-- the margin m -/
  margin : Nat
  errors : Nat
deriving DecidableEq, Repr

/-- Signal, scaled signal and margin against the floor rf (R126). -/
def reading (rf : Nat) (lane : Lane) (q d e : Nat) : Reading where
  lane := lane
  scaled := (d - q) * 16
  margin := min ((d - q) * 16 / rf) 65535
  errors := e

/-- The received entries of a node with the entries they answer (R95, R109). -/
def answered (s : State) (n : Slot) : List (Entry × EntryValue) :=
  (s.planner.entries.at n).zip (s.epoch.received.at n)

/-- The drive status an entry pair gives for a trial. -/
def driveOf (trial : Nat) (ev : Entry × EntryValue) : Option DriveStatus :=
  match ev.2 with
  | .drive st => if ev.1.kind = .drive ∧ ev.1.trial = trial then some st else none
  | .listen _ _ _ => none

/-- The reading an entry pair gives for a trial, among the entries of one mark. -/
def readingOf (rf trial : Nat) (mark : EntryKind) (ev : Entry × EntryValue) : Option Reading :=
  match ev.2 with
  | .listen q d e => if ev.1.kind = mark ∧ ev.1.trial = trial then some (reading rf ev.1.lane q d e) else none
  | .drive _ => none

/-- The floor of a leg received at slot n (R125). -/
def floorAt (s : State) (n : Slot) : Nat := max (s.grading.refSnap.at n / 256) (s.p 10)

/-- The driver entry of a trial (R124). -/
def driverEntry (s : State) (t : Trial) : Option DriveStatus :=
  (answered s t.driver.slot).findSome? (driveOf t.number)

/-- The expected entry of a trial (R124). -/
def expectedEntry (s : State) (t : Trial) : Option Reading :=
  (answered s t.receiver.slot).findSome? (readingOf (floorAt s t.receiver.slot) t.number .expected)

/-- The neighbour entries of a trial, in ascending lane order (R124). -/
def neighbourEntries (s : State) (t : Trial) : List Reading :=
  (answered s t.receiver.slot).filterMap (readingOf (floorAt s t.receiver.slot) t.number .neighbour)

/-- The open threshold used (R123). -/
def Thresholds.effectiveOpen (t : Thresholds) : Nat := min t.tOpen t.tPass

/-- The isolation threshold used (R123). -/
def Thresholds.effectiveIso (t : Thresholds) : Nat := min t.tIso t.tPass

/-- The snapshotted thresholds of a leg's class (R122, R124). -/
def thresholdsOf (s : State) (l : LegIx) : Thresholds := s.grading.thrSnap.at (s.map.recordOfLeg l).cls

/-! ## The verdict (R127, R128) -/

/-- The first verdict whose condition holds (R127). -/
def verdictOf (th : Thresholds) (rf : Nat) (st : DriveStatus) (x : Reading) (ns : List Reading) : Verdict :=
  if st = .currentLimit then .shorted
  else if st = .notDriven then .noDrive
  else if rf * th.tPass ≤ x.scaled ∧ th.eMax < x.errors then .errors
  else if rf * th.tPass ≤ x.scaled then .pass
  else if ns.any (fun n => rf * th.tPass ≤ n.scaled) then .crossed
  else if x.scaled < rf * th.effectiveOpen then .open
  else .weak

/-- The reading with the larger G, the lower lane when equal, of readings in ascending lane order (R128). -/
def strongest : List Reading → Option Reading
  | [] => none
  | r :: rs =>
      match strongest rs with
      | none => some r
      | some b => if r.scaled < b.scaled then some b else some r

/-- The signal lane's reading: among the neighbours that reach the pass threshold (R128). -/
def signalReading (th : Thresholds) (rf : Nat) (ns : List Reading) : Option Reading :=
  strongest (ns.filter (fun n => rf * th.tPass ≤ n.scaled))

/-! ## Findings raised (R130, R131) -/

/-- A BLEED presentation for a neighbour lane (R130). -/
def bleedOf (slot : Slot) (epoch : Nat) (n : Reading) : Presentation :=
  ⟨.bleed, some ⟨slot, n.lane⟩, none, epoch, some n.margin⟩

/-- The findings a verdict raises, in the order presented (R130, R131, R136). -/
def findingsOf (th : Thresholds) (rf epoch : Nat) (t : Trial) (v : Verdict) (ns : List Reading) :
    List Presentation :=
  if v = .crossed then
    match signalReading th rf ns with
    | some r => [⟨.crossed, some t.receiver, some r.lane, epoch, some r.margin⟩]
    | none => []
  else (ns.filter (fun n => rf * th.effectiveIso ≤ n.scaled)).map (bleedOf t.receiver.slot epoch)

/-! ## Retest, settle and the result record (R132 to R135) -/

/-- The verdicts that settle at once (R132). -/
def Verdict.settlesAtOnce : Verdict → Bool
  | .pass | .open | .crossed | .shorted => true
  | _ => false

/-- The settle decision of a grading, with the attempts it has raised (R132). -/
def settles (v : Verdict) (attempts limit : Nat) : Bool := v.settlesAtOnce || attempts == 1 + limit

/-- The record of a leg graded from entries (R134, R135). -/
def LegResult.graded (r : LegResult) (v : Verdict) (x : Reading) (signal : Option Lane) (epoch limit : Nat)
    (degraded late : Bool) : LegResult where
  verdict := v
  settled := settles v (r.attempts + 1) limit
  attempts := r.attempts + 1
  margin := some x.margin
  errorCount := some x.errors
  signalLane := if v = .crossed then signal else none
  lastEpoch := some epoch
  degraded := degraded
  late := late

/-- The record of a leg graded NO_REPORT (R129, R134, R135). -/
def LegResult.noReport (r : LegResult) (epoch limit : Nat) (degraded : Bool) : LegResult where
  verdict := .noReport
  settled := settles .noReport (r.attempts + 1) limit
  attempts := r.attempts + 1
  margin := r.margin
  errorCount := r.errorCount
  signalLane := none
  lastEpoch := some epoch
  degraded := degraded
  late := false

/-- The trial that held a leg becomes GRADED (R84, R133). -/
def markGraded (number : Nat) (s : State) : State :=
  s.onPlanner fun p =>
    { p with
      trials := p.trials.map fun t => if t.number = number then { t with state := .graded } else t }

/-- A graded leg's record is written; the leg is settled and counted, or joins the tail of the queue (R82,
R132, R133). -/
def settleOrRetest (l : LegIx) (r : LegResult) (s : State) : State :=
  showLamps
    (if r.settled then s.onResults fun rs => (rs.write l r).count r.verdict
     else (s.onResults fun rs => rs.write l r).onPlanner fun p => { p with queue := p.queue ++ [l] })

/-- Present findings one after the other (R136). -/
def presentAll (ps : List Presentation) (s : State) : State := ps.foldl (fun s p => present p s) s

/-- Grade a trial from the entries found for it (R124 to R136). -/
def gradeWith (st : DriveStatus) (x : Reading) (t : Trial) (s : State) : State :=
  let th := thresholdsOf s t.leg
  let rf := floorAt s t.receiver.slot
  let ns := neighbourEntries s t
  let v := verdictOf th rf st x ns
  let r := (s.results.records.at t.leg).graded v x ((signalReading th rf ns).map (·.lane)) s.epoch.number
    s.campaign.retestLimit s.epoch.backup (s.epoch.state == .grace)
  markGraded t.number (settleOrRetest t.leg r (presentAll (findingsOf th rf s.epoch.number t v ns) s))

/-- Grade a ready trial; a trial whose entries are not there stays as it is (log entry 14). -/
def gradeTrial (s : State) (t : Trial) : State :=
  match driverEntry s t, expectedEntry s t with
  | some st, some x => gradeWith st x t s
  | _, _ => s

/-- Grade a trial NO_REPORT (R129). -/
def gradeNoReport (s : State) (t : Trial) : State :=
  markGraded t.number
    (settleOrRetest t.leg
      ((s.results.records.at t.leg).noReport s.epoch.number s.campaign.retestLimit s.epoch.backup) s)

end Sys2Proof.Machine
end

