-- ==== Sys2Proof/Machine/EpochCycle.lean ====
section
/-! DEFINITION. The Epoch Controller: FETCH, announce end, the phases, REPORT, deadline, grace, close and void
settle (chapter 6). -/

namespace Sys2Proof.Machine

/-- The refusal of a FETCH or REPORT by the epoch it names; none when it names the current epoch, not in VOID
(R98). -/
def epochRefusal (named : Nat) (e : Epoch) : Option ReplyCode :=
  if named = e.number ∧ e.state ≠ .none then
    if e.state = .void then some .voided else none
  else
    match e.lastEnded with
    | some (n, .closed) => if n = named then some .tooLate else some .stale
    | some (n, .voided) => if n = named then some .voided else some .stale
    | none => some .stale

/-! ## FETCH (R100, R101) -/

/-- A node's fetch-complete flag is set (R101). -/
def completeFetch (n : Slot) (s : State) : State :=
  s.onNodes fun nt => { nt with probes := nt.probes.change n fun r => { r with fetchComplete := true } }

/-- A FETCH answered OK; the final duty index completes the fetch (R100, R101). -/
def serveDuty (n : Slot) (d : Duty) (index : Nat) (s : State) : State × Answer :=
  (if index + 1 = (s.planner.duties.at n).length then completeFetch n s else s,
   ⟨.ok, byteOf (s.planner.duties.at n).length :: d.bytes⟩)

/-- The Epoch Controller answers a FETCH that has passed R30 (R100). -/
def answerFetch (n : Slot) (payload : List Byte) (s : State) : State × Answer :=
  match payload with
  | [e1, e0, index] =>
      match epochRefusal (num16 e1 e0) s.epoch with
      | some code => (s, .refusal code)
      | none =>
          if s.epoch.state = .planning then (s, .refusal .wait)
          else if s.epoch.state ≠ .announce then (s, .refusal .state)
          else if (s.planner.duties.at n).isEmpty then (s, .refusal .noDuty)
          else
            match (s.planner.duties.at n)[index.toNat]? with
            | none => (s, .refusal .range)
            | some d => serveDuty n d index.toNat s
  | _ => (s, .refusal .malformed)

/-! ## Announce end and the phases (R102 to R105) -/

/-- A node takes part in the epoch and its fetch is not complete (R102). -/
def notFetched (s : State) (n : Slot) : Bool :=
  !(s.planner.duties.at n).isEmpty && !(s.nodes.probes.at n).fetchComplete

/-- A trial's driver node or receiver node did not complete its fetch (R102, step 1). -/
def unfetched (nt : NodeTable) (t : Trial) : Bool :=
  !(nt.probes.at t.driver.slot).fetchComplete || !(nt.probes.at t.receiver.slot).fetchComplete

/-- Nodes are released for the rest of the epoch (R102, step 3). -/
def releaseNodes (ns : List Slot) (s : State) : State :=
  s.onEpoch fun e => { e with released := ns.foldl (fun t n => t.put n true) e.released }

/-- Nodes take one miss each. -/
def missAll (ns : List Slot) (s : State) : State := ns.foldl (fun s n => takeMiss n s) s

/-- The withdrawal of the announce end (R102). -/
def withdraw (s : State) : State :=
  let gone := (heldTrials s).filter (unfetched s.nodes)
  let absentees := allSlots.filter (notFetched s)
  releaseNodes absentees
    (missAll absentees (returnLegs (gone.map (·.leg)) (vacate (unfetched s.nodes) s)))

/-- A phase begins: its strobe goes high and its length is timed (R104). -/
def beginPhase (place : EpochState) (quiet : Bool) (s : State) : State :=
  s.onEpoch fun e =>
    { e with
      state := place
      qstb := quiet
      dstb := !quiet
      timer := some ((if quiet then s.p 1 else s.p 2) * 100) }

/-- PHASE1 begins: P5 is taken, and the backup mark is set if the clock source is BACKUP (R103, R104, R105). -/
def beginPhase1 (s : State) : State :=
  beginPhase .phase1 (s.p 4 == 0) (s.onEpoch fun e =>
    { e with driveFirst := s.p 4 != 0, backup := e.backup || s.timebase.source == .backup })

/-- PHASE2 begins (R104). -/
def beginPhase2 (s : State) : State := beginPhase .phase2 s.epoch.driveFirst s

/-- How the announce end goes on after the withdrawal (R103). -/
def afterWithdrawal (s : State) : State :=
  if (heldTrials s).isEmpty then closeEpoch false s
  else if s.rail.state = .sag then enterVoid .rail s
  else beginPhase1 s

/-- ANNOUNCE_END; it cannot come outside ANNOUNCE (log entry 4). -/
def announceEnds (s : State) : State := if s.epoch.state = .announce then afterWithdrawal (withdraw s) else s

/-- Both strobes go low. -/
def strobesLow (s : State) : State := s.onEpoch fun e => { e with qstb := false, dstb := false }

/-- The settle gap of P4 tenths of a millisecond (R104). -/
def beginGap (s : State) : State := s.onEpoch fun e => { e with state := .gap, timer := some (s.p 3 * 100) }

/-- PHASE1_END; it cannot come outside PHASE1 (log entry 4). -/
def phase1Ends (s : State) : State :=
  if s.epoch.state = .phase1 then
    if s.p 3 = 0 then beginPhase2 (strobesLow s) else beginGap (strobesLow s)
  else s

/-- GAP_END; it cannot come outside GAP (log entry 4). -/
def gapEnds (s : State) : State := if s.epoch.state = .gap then beginPhase2 s else s

/-- COLLECTING begins: P6 is taken, the grace length fixed, the report deadline timed (R107). -/
def beginCollecting (s : State) : State :=
  s.onEpoch fun e => { e with state := .collecting, grace := s.p 5 / 2, timer := some (s.p 5 * 1000) }

/-- PHASE2_END; it cannot come outside PHASE2 (log entry 4). -/
def phase2Ends (s : State) : State :=
  if s.epoch.state = .phase2 then beginCollecting (strobesLow s) else s

/-! ## REPORT (R107 to R112) -/

/-- A node's report is COMPLETE. -/
def isComplete (s : State) (n : Slot) : Bool := standing s n == some .complete

/-- The trials a completion has made ready: HELD, both nodes COMPLETE (R111, step 3). -/
def readyTrials (s : State) : List Trial :=
  (heldTrials s).filter fun t => isComplete s t.driver.slot && isComplete s t.receiver.slot

/-- A node's miss count becomes 0 (R111, step 1). -/
def clearMisses (n : Slot) (s : State) : State :=
  s.onNodes fun nt => { nt with probes := nt.probes.change n fun r => { r with misses := 0 } }

/-- The three things a completed report does (R111, R136). -/
def completeReport (n : Slot) (s : State) : State :=
  let s' := trackReference n (clearMisses n s)
  (readyTrials s').foldl gradeTrial s'

/-- Every awaited node is COMPLETE: no node is OWED (R106, R112). -/
def noneOwed (s : State) : Bool := allSlots.all fun n => standing s n != some .owed

/-- The early close, when the completion leaves no node OWED (R112). -/
def closeIfDone (s : State) : State := if noneOwed s then closeEpoch true s else s

/-- The values of a run of entries, if every drive status is one of the three (R109, step 3). -/
def runValues : List RawEntry → Option (List EntryValue)
  | [] => some []
  | r :: rs =>
      match r.value, runValues rs with
      | some v, some vs => some (v :: vs)
      | _, _ => none

/-- Every lane of a run equals the lane of the entry list at its index (R109, step 2). -/
def lanesMatch (entries : List Entry) (first : Nat) (run : List RawEntry) : Bool :=
  ((entries.drop first).zip run).all fun er => er.2.lane == er.1.lane.val

/-- The values of an accepted REPORT are stored and the cursor advances (R109). -/
def storeRun (n : Slot) (values : List EntryValue) (s : State) : State :=
  (s.onEpoch fun e => { e with received := e.received.change n (· ++ values) }).onNodes fun nt =>
    { nt with probes := nt.probes.change n fun r => { r with cursor := r.cursor + values.length } }

/-- An accepted REPORT, and the completion it may bring (R109, R111, R112). -/
def acceptRun (n : Slot) (values : List EntryValue) (s : State) : State :=
  if (s.nodes.probes.at n).cursor + values.length = (s.planner.entries.at n).length then
    closeIfDone (completeReport n (storeRun n values s))
  else storeRun n values s

/-- The reply of an accepted REPORT: the cursor after the frame and the entry count (R109, R179). -/
def runReply (code : ReplyCode) (cursor count : Nat) : Answer := ⟨code, [byteOf cursor, byteOf count]⟩

/-- A REPORT that begins at the cursor (R109). -/
def reportAtCursor (n : Slot) (bytes : List Byte) (s : State) : State × Answer :=
  match walk (s.planner.entries.at n) (s.nodes.probes.at n).cursor bytes with
  | none => (s, .refusal .malformed)
  | some run =>
      if ¬lanesMatch (s.planner.entries.at n) (s.nodes.probes.at n).cursor run then (s, .refusal .mismatch)
      else
        match runValues run with
        | none => (s, .refusal .range)
        | some values =>
            (acceptRun n values s,
             runReply .ok ((s.nodes.probes.at n).cursor + values.length) (s.planner.entries.at n).length)

/-- The frame's run ends exactly at the cursor (R110). -/
def endsAtCursor (entries : List Entry) (first cursor : Nat) (bytes : List Byte) : Bool :=
  match walk entries first bytes with
  | some run => first < cursor && first + run.length == cursor
  | none => false

/-- A REPORT that begins elsewhere than at the cursor (R110). -/
def reportElsewhere (n : Slot) (first : Nat) (bytes : List Byte) (s : State) : Answer :=
  if endsAtCursor (s.planner.entries.at n) first (s.nodes.probes.at n).cursor bytes then
    runReply .duplicate (s.nodes.probes.at n).cursor (s.planner.entries.at n).length
  else ⟨.order, [byteOf (s.nodes.probes.at n).cursor]⟩

/-- The cursor tests (R107, step 6). -/
def reportRun (n : Slot) (first : Nat) (bytes : List Byte) (s : State) : State × Answer :=
  if first = (s.nodes.probes.at n).cursor then reportAtCursor n bytes s
  else (s, reportElsewhere n first bytes s)

/-- The Epoch Controller answers a REPORT that has passed R30 (R107). -/
def answerReport (n : Slot) (payload : List Byte) (s : State) : State × Answer :=
  match payload with
  | e1 :: e0 :: first :: bytes =>
      match epochRefusal (num16 e1 e0) s.epoch with
      | some code => (s, .refusal code)
      | none =>
          if (s.planner.duties.at n).isEmpty then (s, .refusal .noDuty)
          else if ¬(s.epoch.state = .collecting ∨ s.epoch.state = .grace) then (s, .refusal .state)
          else if ¬(standing s n = some .owed ∨ standing s n = some .complete) then (s, .refusal .state)
          else reportRun n first.toNat bytes s
  | _ => (s, .refusal .malformed)

/-! ## Deadline, grace and void settle (R113, R114, R118) -/

/-- REPORT_DEADLINE; it cannot come outside COLLECTING (log entry 4). -/
def deadlineRunsOut (s : State) : State :=
  if s.epoch.state = .collecting then
    s.onEpoch fun e => { e with state := .grace, timer := some (e.grace * 1000) }
  else s

/-- What the grace end does before the close: NO_REPORT gradings, and misses of the nodes still OWED (R114). -/
def settleGrace (s : State) : State :=
  missAll (allSlots.filter (fun n => standing s n == some .owed)) ((heldTrials s).foldl gradeNoReport s)

/-- GRACE_END; it cannot come outside GRACE (log entry 4). -/
def graceEnds (s : State) : State :=
  if s.epoch.state = .grace then closeEpoch true (settleGrace s) else s

/-- Steps 1 and 2 of the settle end: HELD trials vacated, their legs to the head, the epoch VOIDED (R118). -/
def settleVoid (s : State) : State :=
  (returnLegs ((heldTrials s).map (·.leg)) (vacate (fun _ => true) s)).onEpoch fun e =>
    { e with timer := none, lastEnded := some (e.number, .voided) }

/-- VOID_SETTLE_END; it cannot come outside VOID (log entry 4). -/
def voidSettles (s : State) : State :=
  if s.epoch.state = .void then decideAfterSettle (settleVoid s) else s

end Sys2Proof.Machine
end

