-- ==== Sys2Proof/Machine/Supervision.lean ====
section
/-! DEFINITION. The Rail Monitor and the Timebase Unit (chapter 8). -/

namespace Sys2Proof.Machine

/-! ## Rail Monitor -/

/-- The comparator output disagrees with the rail state (R140). -/
def disagrees (state : RailState) (below : Bool) : Bool :=
  match state with
  | .ok => below
  | .sag => !below

/-- The monitor after the comparator output changes: a departure is timed by P14, a return abandons it (R140). -/
def Rail.output (r : Rail) (below : Bool) (p14 : Nat) : Rail :=
  if r.below = below then r
  else { r with below := below, filter := if disagrees r.state below then some p14 else none }

/-- The comparator output changes (R140). -/
def comparatorChanges (below : Bool) (s : State) : State := s.onRail fun r => r.output below (s.p 13)

/-- The comparator output during a reset: the output alone, since the filter starts afresh at its end (R139). -/
def comparatorPin (below : Bool) (s : State) : State := s.onRail fun r => { r with below := below }

/-- A sag is signalled to the Epoch Controller (R141). -/
def signalSag (s : State) : State :=
  match s.epoch.state with
  | .phase1 | .gap | .phase2 => enterVoid .rail s
  | .none | .planning | .announce | .collecting | .grace | .void => s

/-- A departure has lasted P14 us and the rail state changes (R140, R141). -/
def railChanges (s : State) : State :=
  match s.rail.state with
  | .ok =>
      signalSag (s.onRail fun r => { r with state := .sag, filter := none, sagCount := satInc 65535 r.sagCount })
  | .sag => s.onRail fun r => { r with state := .ok, filter := none }

/-- SAG_FILTER_EXPIRY; it cannot come while no departure is being timed (log entry 4). -/
def sagFilterExpires (s : State) : State := if s.rail.filter.isSome then railChanges s else s

/-! ## Timebase Unit -/

/-- An edge on REFCLK: the 20 us gap is timed from it; while STOPPED it also begins a clean run, timed by P16
(R146). -/
def refclkEdge (s : State) : State :=
  s.onTimebase fun t =>
    { t with
      running := true
      gap := some Config.clockGapMicros
      returnTimer := if t.running then t.returnTimer else some (s.p 15 * 1000) }

/-- The unit after a clock loss (R147). -/
def Timebase.lost (t : Timebase) : Timebase where
  source := .backup
  running := false
  gap := none
  returnTimer := none
  returnPending := false
  lossCount := satInc 65535 t.lossCount

/-- The switch to BACKUP is signalled: the backup mark is set within the phases (R105, R147). -/
def markSwitch (s : State) : State :=
  s.onEpoch fun e =>
    { e with backup := e.backup || e.state == .phase1 || e.state == .gap || e.state == .phase2 }

/-- A clock loss (R147). -/
def loseClock (s : State) : State :=
  match s.timebase.source with
  | .reference => markSwitch (s.onTimebase Timebase.lost)
  | .backup => s.onTimebase Timebase.lost

/-- CLOCK_LOSS; it cannot come while REFCLK is STOPPED (R146, log entry 4). -/
def clockLost (s : State) : State := if s.timebase.running then loseClock s else s

/-- The campaign states in which a return that becomes pending is applied at once (R148). -/
def CampaignState.returnsAtOnce : CampaignState → Bool
  | .idle | .waiting | .done | .aborted => true
  | .running | .paused => false

/-- A clean run reaches P16 ms (R148). -/
def runReachesP16 (s : State) : State :=
  s.onTimebase fun t =>
    { t with returnTimer := none, returnPending := t.returnPending || t.source == .backup }

/-- RETURN_TIMER_EXPIRY; it cannot come while no clean run is being timed (log entry 4). -/
def returnTimerExpires (s : State) : State :=
  if s.timebase.returnTimer.isSome then
    if s.campaign.state.returnsAtOnce then applyReturn (runReachesP16 s) else runReachesP16 s
  else s

end Sys2Proof.Machine
end

