-- ==== Sys2Proof/Machine/Port.lean ====
section
/-! DEFINITION. The Service Line Port: start marks, bits, disturbances and the tests of a received frame
(chapter 1). -/

namespace Sys2Proof.Machine

/-! ## Pulses (R2, R3, R8) -/

/-- The receive buffer emptied (R3, R18, log entry 20). -/
def Port.emptyBuffer (p : Port) : Port := { p with rxBytes := [], rxBits := [] }

/-- A frame in progress is discarded and the line is idle (R3, R6, R8). -/
def Port.discardFrame (p : Port) : Port := { p.emptyBuffer with line := .idle }

/-- A framing error: counted once, the frame discarded, the line idle (R3, R4, R6, R17). -/
def Port.framingError (p : Port) : Port :=
  { p.discardFrame with framingErrors := satInc 65535 p.framingErrors }

/-- The reply is over and the line is idle (R7). -/
def Port.endReply (p : Port) : Port := { p with line := .idle, replyPhase := .none, tx := [] }

/-- The reply is complete and end-of-frame is awaited (R7). -/
def Port.awaitsEndOfFrame (p : Port) : Bool := p.line == .replying && p.replyPhase == .complete

/-- A dominant edge before end-of-frame is reached: the port enters IDLE at that edge (R7). -/
def Port.seeEdge (p : Port) : Port := if p.awaitsEndOfFrame then p.endReply else p

/-- Reception begins at a start mark; the line state before it is recorded (R3). -/
def Port.beginFrame (p : Port) : Port := { p.emptyBuffer with line := .receiving, lineAtStart := p.line }

/-- An edge of SL in STUCK, the leading edge of a pulse or its return to recessive: the 1 ms wait starts again (R11).
A pulse below 300 us cannot use the wait up, and a longer level stops it (`Port.stopStuckWait`), so with both edges
told (log entry 23) the wait runs out only after 1 ms recessive without interruption. Outside STUCK there is no wait
(log entry 4). -/
def Port.stuckWaits (p : Port) : Port :=
  if p.line = .stuck then { p with stuckWait := some Config.stuckClearMicros } else p

/-- A start mark by the line state (R2, R3, R17); in STUCK it is a pulse that restarts the wait (R11). -/
def Port.markSeen (p : Port) : Port :=
  match p.line with
  | .idle => p.beginFrame
  | .receiving => { p.beginFrame with framingErrors := satInc 65535 p.framingErrors }
  | .stuck => p.stuckWaits
  | .replying | .broken => p

/-- A noise event by the line state (R8, R17); in STUCK it is a pulse that restarts the wait (R11). -/
def Port.noiseSeen (p : Port) : Port :=
  match p.line with
  | .idle => { p with noiseEvents := satInc 65535 p.noiseEvents }
  | .receiving => { p.discardFrame with noiseEvents := satInc 65535 p.noiseEvents }
  | .stuck => p.stuckWaits
  | .replying | .broken => p

/-- Append a bit; every eighth completes a byte (R1, R3). -/
def Port.appendBit (p : Port) (b : Bool) : Port :=
  if p.rxBits.length = 7 then { p with rxBytes := p.rxBytes ++ [byteOfBits (p.rxBits ++ [b])], rxBits := [] }
  else { p with rxBits := p.rxBits ++ [b] }

/-- A bit slot of this frame came before (R3). -/
def Port.hasSlot (p : Port) : Bool := !(p.rxBytes.isEmpty && p.rxBits.isEmpty)

/-- A bit in RECEIVING: too early, one too many, or received (R3). -/
def Port.receiveBit (p : Port) (b : Bool) (spacing : Nat) : Port :=
  if p.hasSlot ∧ spacing < 9 then p.framingError
  else if 34 ≤ p.rxBytes.length then p.framingError
  else p.appendBit b

/-- A pulse of 2 us to under 30 us in RECEIVING (R2, R3). -/
def Port.receivePulse (p : Port) (width spacing : Nat) : Port :=
  match classify width with
  | .bit b => p.receiveBit b spacing
  | .badSymbol => p.framingError
  | .unseen | .noise | .startMark | .long => p

/-- A bit pulse by the line state (R2); in STUCK one of 1 us or longer restarts the wait (R11). -/
def Port.pulseSeen (p : Port) (width spacing : Nat) : Port :=
  match p.line with
  | .receiving => p.receivePulse width spacing
  | .stuck => if 1 ≤ width then p.stuckWaits else p
  | .idle | .replying | .broken => p

/-- A pulse below 300 us: the level found at the end of a reset is ignored when it ends so soon; any other
pulse is classified, an edge before end-of-frame making the line idle first (R7, R18, log entry 9). -/
def Port.pulse (p : Port) (f : Port → Port) : Port :=
  if p.levelFromReset then { p with levelFromReset := false } else f p.seeEdge

/-! ## Break and stuck (R9, R10, R11) -/

/-- The line state becomes BREAK: a frame in progress is discarded, the arm record is cleared (R9). -/
def Port.enterBreak (p : Port) : Port :=
  { p.emptyBuffer with line := .broken, replyPhase := .none, tx := [], arm := none, levelFromReset := false }

/-- The line state becomes STUCK and the line fault count rises (R10). -/
def Port.enterStuck (p : Port) : Port :=
  { p with line := .stuck, lineFaults := satInc 65535 p.lineFaults, stuckWait := none }

/-- A break ends below 20 ms (R9); in STUCK a level of that length restarts the wait and counts nothing (R11);
elsewhere there is none to end (log entry 4). -/
def Port.breakEnds (p : Port) : Port :=
  if p.line = .broken then { p with line := .idle, breaks := satInc 65535 p.breaks } else p.stuckWaits

/-- SL is dominant again in STUCK: no recessive time passes, so the 1 ms wait stops until the level ends (R11). -/
def Port.stopStuckWait (p : Port) : Port := { p with stuckWait := none }

/-- A stuck episode clears (R11); it cannot clear while there is none (log entry 4). -/
def Port.stuckClears (p : Port) : Port :=
  if p.line = .stuck then { p with line := .idle, stuckWait := none } else p

/-! ## The tests of a frame (R4, R6) -/

/-- The structure tests, in order (R4). -/
def wellStructured (bits : List Bool) (bytes : List Byte) : Bool :=
  bits.isEmpty && 4 ≤ bytes.length && (byteAt bytes 2).toNat ≤ 30
    && bytes.length == (byteAt bytes 2).toNat + 4

/-- The last byte is the check byte of the bytes before it (R5, R6). -/
def checkHolds (bytes : List Byte) : Bool :=
  byteAt bytes (bytes.length - 1) == crc8 (bytes.take (bytes.length - 1))

/-- A check error: counted, the frame unseen, the line idle (R6). -/
def Port.checkError (p : Port) : Port := { p.discardFrame with checkErrors := satInc 65535 p.checkErrors }

/-! ## The reply (R7, R14, R15, R16) -/

/-- The reply is placed in the reply buffer and the line state becomes REPLYING (R12, R14). -/
def Port.placeReply (p : Port) (a : Answer) : Port :=
  { p with
    line := .replying
    reply := a.bytes
    replyPhase := .due
    tx := []
    stuckWait := none
    levelFromReset := false }

/-- The reply starts: the start mark and the bit slots of the reply buffer go on the line (R15). -/
def Port.startReply (p : Port) : Port := { p with replyPhase := .sending, tx := replyWave p.reply }

/-- A reply is due, or is being sent. -/
def Port.replyOpen (p : Port) : Bool :=
  p.line == .replying && (p.replyPhase == .due || p.replyPhase == .sending)

/-- The reply is due and has not started. -/
def Port.replyDue (p : Port) : Bool := p.line == .replying && p.replyPhase == .due

/-- The last slot ends without a collision: end-of-frame is awaited, or a level already dominant makes the line
idle at once (R7, R15). -/
def Port.completeReply (p : Port) (dominant : Bool) : Port :=
  if dominant then p.endReply else { p with replyPhase := .complete, tx := [] }

/-- A reply collision: SL released, counted, the line idle (R16). -/
def Port.collide (p : Port) : Port := { p.endReply with collisions := satInc 65535 p.collisions }

end Sys2Proof.Machine
end

