-- ==== Sys2Proof/Machine/Taking.lean ====
section
/-! DEFINITION. Taking a request: the arm record, the owners, the silence timer, the reply (R12, R14, R26, R30,
R31, R153, R159, R160). -/

namespace Sys2Proof.Machine

/-! ## The reads of the port, the Results Table and the Findings List -/

/-- The port answers a STATUS (R160). -/
def answerStatus (payload : List Byte) (s : State) : State × Answer :=
  match payload with
  | [page] =>
      if page = 0#8 then (s, ⟨.ok, statusPage0 s⟩)
      else if page = 1#8 then (s, ⟨.ok, statusPage1 s⟩)
      else if page = 2#8 then (s, ⟨.ok, statusPage2 s⟩)
      else (s, .refusal .range)
  | _ => (s, .refusal .malformed)

/-- The Results Table answers a RESULT_READ that has passed R30 (R153). -/
def answerResultRead (payload : List Byte) (s : State) : State × Answer :=
  match payload with
  | [hi, lo] =>
      if h : num16 hi lo < 960 then
        if s.map.isLeg ⟨num16 hi lo, h⟩ then
          (s, ⟨.ok, resultBytes ⟨num16 hi lo, h⟩ (s.results.records.at ⟨num16 hi lo, h⟩)⟩)
        else (s, .refusal .range)
      else (s, .refusal .range)
  | _ => (s, .refusal .malformed)

/-- The Findings List answers a FINDING_READ that has passed R30 (R159). -/
def answerFindingRead (payload : List Byte) (s : State) : State × Answer :=
  match payload with
  | [i] =>
      match s.findings.list[i.toNat]? with
      | some f => (s, ⟨.ok, findingBytes i.toNat s.findings.list.length f⟩)
      | none => (s, .refusal .range)
  | _ => (s, .refusal .malformed)

/-! ## The owners (R12, step 5) -/

/-- The answer of a request that only a probe may send; the station never comes so far (R30, step 2). -/
def probeOnly (who : Sender) (answer : Slot → State × Answer) (s : State) : State × Answer :=
  match who with
  | .probe n => answer n
  | .station => (s, .refusal .role)

/-- The owner of a kind decides a request that has passed R30 (R12). -/
def ownerAnswers (k : RequestKind) (who : Sender) (payload : List Byte) (s : State) : State × Answer :=
  match k with
  | .enrol => answerEnrol who payload s
  | .leave => answerLeave who payload s
  | .status => answerStatus payload s
  | .ident => answerIdent payload s
  | .arm => answerArm payload s
  | .paramSet => answerParamSet payload s
  | .paramGet => answerParamGet payload s
  | .mapWrite => answerMapWrite payload s
  | .mapRead => answerMapRead payload s
  | .mapValidate => answerMapValidate payload s
  | .mapBurn => answerMapBurn payload s
  | .campaignStart => answerStart payload s
  | .campaignPause => answerPause payload s
  | .campaignResume => answerResume payload s
  | .campaignAbort => answerAbort payload s
  | .fetch => probeOnly who (fun n => answerFetch n payload s) s
  | .report => probeOnly who (fun n => answerReport n payload s) s
  | .resultRead => answerResultRead payload s
  | .findingRead => answerFindingRead payload s
  | .certCommit => answerCertCommit payload s
  | .certRead => answerCertRead payload s
  | .restart => answerRestart payload s

/-- A request passed to its owner: the acceptance tests of R30, then the owner (R12, step 5). -/
def passOn (k : RequestKind) (who : Sender) (armed : Bool) (payload : List Byte) (s : State) : State × Answer :=
  match acceptance k who armed s.nodes with
  | some code => (s, .refusal code)
  | none => ownerAnswers k who payload s

/-- The refusal of a sender at addresses 20 to 30 (R12, step 4). -/
def strangerRefusal (k : RequestKind) : ReplyCode := if k = .enrol then .range else .notEnrolled

/-- The request is decided (R12, steps 3 to 5). -/
def decideRequest (header kind : Byte) (armed : Bool) (payload : List Byte) (s : State) : State × Answer :=
  match RequestKind.ofByte kind with
  | none => (s, .refusal .unknownKind)
  | some k =>
      match senderOf header with
      | none => (s, .refusal (strangerRefusal k))
      | some who => passOn k who armed payload s

/-! ## Taking (R12) -/

/-- The frame is marked as armed: the arm is live for its kind and it comes from address 31 (R31). -/
def marksArmed (arm : Option ArmKind) (header kind : Byte) : Bool :=
  match arm with
  | some a => addressOf header == 31 && kind == a.byte
  | none => false

/-- The arm record after a frame is presented to it: never live (R31). -/
def presentToArm (s : State) : State := s.onPort fun p => { p with arm := none }

/-- The silence timer restarts for a request from address 31, but not for an ENROL refused with STATION_HELD
(R26). -/
def restartSilence (header : Byte) (code : ReplyCode) (s : State) : State :=
  if addressOf header = 31 ∧ code ≠ .stationHeld then s.onNodes fun nt => { nt with silence := 0 } else s

/-- A decided request is answered (R12, R14, R26). -/
def reply (header : Byte) (d : State × Answer) : State :=
  (restartSilence header d.2.code d.1).onPort fun p => p.placeReply d.2

/-- The port takes the request of a good frame (R12). -/
def takeRequest (header kind : Byte) (payload : List Byte) (s : State) : State :=
  reply header (decideRequest header kind (marksArmed s.port.arm header kind) payload (presentToArm s))

/-- A whole good frame lies in the receive buffer; a frame that began with no start mark told began on an idle
line (R3, log entry 5). -/
def Port.holdFrame (p : Port) (bytes : List Byte) : Port :=
  { p with rxBytes := bytes, rxBits := [], lineAtStart := if p.line = .receiving then p.lineAtStart else .idle }

/-- A request comes whole: its frame is received and taken (R4, R12, log entry 5). -/
def deliver (header kind : Byte) (payload : List Byte) (s : State) : State :=
  if payload.length ≤ 30 then
    takeRequest header kind payload (s.onPort fun p => p.holdFrame (requestFrame header kind payload))
  else s.onPort Port.framingError

/-- The payload of a received frame (R177). -/
def payloadOf (bytes : List Byte) : List Byte := (bytes.drop 3).take (bytes.length - 4)

/-- End-of-data in RECEIVING: the structure tests, the check byte test, and the taking (R4, R6, R12). -/
def testFrame (s : State) : State :=
  if ¬wellStructured s.port.rxBits s.port.rxBytes then s.onPort Port.framingError
  else if ¬checkHolds s.port.rxBytes then s.onPort Port.checkError
  else takeRequest (byteAt s.port.rxBytes 0) (byteAt s.port.rxBytes 1) (payloadOf s.port.rxBytes) s

/-- END_OF_DATA; it cannot come outside RECEIVING (log entry 4). -/
def endOfData (s : State) : State := if s.port.line = .receiving then testFrame s else s

end Sys2Proof.Machine
end

