-- ==== Sys2Proof/Machine/Reset.lean ====
section
/-! DEFINITION. The resets (R18, R76, R77, R78), the end of a reply that may begin one, and the dominant levels
that cut a reply off. -/

namespace Sys2Proof.Machine

/-- Commands act on the part only while no reset is in progress (R18, R76, log entry 10). -/
def unlessHeld (f : State → State) (s : State) : State := if s.held.isSome then s else f s

/-! ## RESTART -/

/-- A RESTART reset: every block takes its RESTART values; the campaign number, the parameters, the map, the
timebase and the store are kept (R18, R19, R56, R78, R119, R139, R145, R165); a pending return is applied
(R148). -/
def restartReset (slDominant : Bool) (s : State) : State :=
  applyReturn
    { s with
      port := Port.afterReset slDominant
      nodes := NodeTable.afterReset s.nodes.presence
      map := s.map.afterRestart
      campaign := Campaign.afterReset .restart s.campaign.params s.campaign.number
      planner := Planner.afterReset
      epoch := Epoch.afterReset
      grading := Grading.afterReset s.campaign.params
      results := Results.cleared
      findings := Findings.cleared
      rail := Rail.afterReset s.rail.below s.campaign.params }

/-- A reply has ended: the RESTART it answered begins now, if it did (R18, R77). -/
def afterReply (slDominant : Bool) (s : State) : State :=
  if s.campaign.restartDue then restartReset slDominant s else s

/-- A reply collision; the level then on SL is dominant (R15, R16, R18). -/
def replyCollides (s : State) : State := afterReply true (s.onPort Port.collide)

/-- REPLY_START; it cannot come while no reply is due (log entry 4). -/
def replyStarts (dominant : Bool) (s : State) : State :=
  if s.port.replyDue then if dominant then replyCollides s else s.onPort Port.startReply else s

/-- REPLY_COLLISION; it cannot come while no reply is open (log entries 4, 17). -/
def replyCutOff (s : State) : State := if s.port.replyOpen then replyCollides s else s

/-- REPLY_COMPLETE; it cannot come while no reply is open (log entries 4, 17). -/
def replyCompletes (dominant : Bool) (s : State) : State :=
  if s.port.replyOpen then afterReply dominant (s.onPort (·.completeReply dominant)) else s

/-! ## Break and stuck -/

/-- A dominant level reaches 300 us: a reply still open has collided (R9, R16, log entry 8); in STUCK it is part of
the episode, and the 1 ms wait stops (R10, R11, log entry 23). -/
def levelReaches300 (s : State) : State :=
  match s.port.line with
  | .idle | .receiving | .replying => (replyCutOff s).onPort Port.enterBreak
  | .broken => s
  | .stuck => s.onPort Port.stopStuckWait

/-- A dominant level reaches 20 ms: the stuck episode, the line fault, the finding (R10). -/
def stuckBegins (s : State) : State :=
  let s' := lineFault ((levelReaches300 s).onPort Port.enterStuck)
  present (lineStuckPresentation s'.epoch.number) s'

/-- STUCK; a stuck episode is counted once, and a further level of 20 ms in it only stops the 1 ms wait (R10, R11). -/
def levelReaches20ms (s : State) : State :=
  if s.port.line = .stuck then s.onPort Port.stopStuckWait else stuckBegins s

/-! ## POWER and PIN -/

/-- The outputs and the port while a reset is in progress: strobes low, lamps off, SL released, nothing
received (R18, R76). DESIGN CHOICE (log entry 27): the line state is then IDLE, which the spec leaves open. -/
def quietOutputs (s : State) : State :=
  ((s.onEpoch fun e => { e with qstb := false, dstb := false }).onCampaign fun c =>
    { c with lamps := Lamps.off, blinkTimer := none }).onPort fun p =>
    { p.emptyBuffer with line := .idle, replyPhase := .none, tx := [], stuckWait := none }

/-- A POWER or PIN reset is in progress: a write in flight stops at once (R76, R174). -/
def beginHold (kind : ResetKind) (s : State) : State :=
  { (quietOutputs s).onNv NvStore.cutOff with held := some kind }

/-- A POWER or PIN reset ends: every block takes its reset values for the kind, the map is loaded (R18, R19, R56,
R76, R78, R97, R119, R139, R145, R150, R158, R165, R175). -/
def finishReset (kind : ResetKind) (slDominant : Bool) (s : State) : State where
  port := Port.afterReset slDominant
  nodes := NodeTable.afterReset s.nodes.presence
  map := loadMap s.nv.gens
  campaign := Campaign.afterReset kind Params.defaults 0
  planner := Planner.afterReset
  epoch := Epoch.afterReset
  grading := Grading.afterReset Params.defaults
  results := Results.cleared
  findings := Findings.cleared
  rail := Rail.afterReset s.rail.below Params.defaults
  timebase := Timebase.afterReset
  nv := s.nv.afterReset
  held := none
  freeDraws := s.freeDraws
  pending := s.pending

/-- The store as a power-up finds it (R175, log entry 12). -/
def decayStore (decay : List NvDecay) (s : State) : State := s.onNv fun nv => decay.foldl NvStore.decayed nv

/-- POWER_RESET: the reset ends, or waits for nRESET (R76). -/
def powerResets (slDominant nresetLow : Bool) (decay : List NvDecay) (s : State) : State :=
  if nresetLow then beginHold .power (decayStore decay s) else finishReset .power slDominant (decayStore decay s)

/-- NRESET_ASSERTED: a PIN reset begins, unless a reset is already in progress (R76). -/
def nresetFalls (s : State) : State := if s.held.isSome then s else beginHold .pin s

/-- The kind of the reset that ends when nRESET returns high: POWER for one that began at power-on (R76). -/
def kindEnding (held : Option ResetKind) : ResetKind := if held = some .power then .power else .pin

/-- PIN_RESET: nRESET returns high (R76, log entry 10). -/
def nresetRises (slDominant : Bool) (s : State) : State := finishReset (kindEnding s.held) slDominant s

end Sys2Proof.Machine
end

