-- ==== Sys2Proof/Machine/Events.lean ====
section
/-! DEFINITION. The meanings of the ends of work, the timers, presence, supervision and the resets. -/

namespace Sys2Proof.Machine

/-- SCAN_COMPLETE (R49, R50, R51). -/
def execScanComplete (s : State) : Host.Outcome State Fault Refusal := .next (unlessHeld completeScan s)

/-- BURN_COMPLETE (R169). -/
def execBurnComplete (flaws : List (Nat × Byte)) (s : State) : Host.Outcome State Fault Refusal := .next (unlessHeld (completeBurn flaws) s)

/-- CERT_WRITE_COMPLETE (R171). -/
def execCertWriteComplete (flaws : List (Nat × Byte)) (s : State) : Host.Outcome State Fault Refusal := .next (unlessHeld (completeCertificate flaws) s)

/-- PRESENCE_SEATED (R20). -/
def execPresenceSeated (slot : Slot) (s : State) : Host.Outcome State Fault Refusal := .next (unlessHeld (presenceSeats slot) s)

/-- PRESENCE_LOSS (R21). -/
def execPresenceLoss (slot : Slot) (s : State) : Host.Outcome State Fault Refusal := .next (unlessHeld (presenceLost slot) s)

/-- PLAN_END (R60, R88 to R96). -/
def execPlanEnd (s : State) : Host.Outcome State Fault Refusal := .next (unlessHeld planEnds s)

/-- WAIT_EXPIRY (R69). -/
def execWaitExpiry (s : State) : Host.Outcome State Fault Refusal := .next (unlessHeld waitExpires s)

/-- ANNOUNCE_END (R102, R103). -/
def execAnnounceEnd (s : State) : Host.Outcome State Fault Refusal := .next (unlessHeld announceEnds s)

/-- PHASE1_END (R104). -/
def execPhase1End (s : State) : Host.Outcome State Fault Refusal := .next (unlessHeld phase1Ends s)

/-- GAP_END (R104). -/
def execGapEnd (s : State) : Host.Outcome State Fault Refusal := .next (unlessHeld gapEnds s)

/-- PHASE2_END (R104, R107). -/
def execPhase2End (s : State) : Host.Outcome State Fault Refusal := .next (unlessHeld phase2Ends s)

/-- REPORT_DEADLINE (R113). -/
def execReportDeadline (s : State) : Host.Outcome State Fault Refusal := .next (unlessHeld deadlineRunsOut s)

/-- GRACE_END (R114). -/
def execGraceEnd (s : State) : Host.Outcome State Fault Refusal := .next (unlessHeld graceEnds s)

/-- VOID_SETTLE_END (R118). -/
def execVoidSettleEnd (s : State) : Host.Outcome State Fault Refusal := .next (unlessHeld voidSettles s)

/-- SAG_FILTER_EXPIRY (R140, R141). -/
def execSagFilterExpiry (s : State) : Host.Outcome State Fault Refusal := .next (unlessHeld sagFilterExpires s)

/-- REFCLK_EDGE (R146). -/
def execRefclkEdge (s : State) : Host.Outcome State Fault Refusal := .next (unlessHeld refclkEdge s)

/-- CLOCK_LOSS (R146, R147). -/
def execClockLoss (s : State) : Host.Outcome State Fault Refusal := .next (unlessHeld clockLost s)

/-- RETURN_TIMER_EXPIRY (R148). -/
def execReturnTimerExpiry (s : State) : Host.Outcome State Fault Refusal := .next (unlessHeld returnTimerExpires s)

/-- LAMP_BLINK (R71). -/
def execLampBlink (s : State) : Host.Outcome State Fault Refusal := .next (unlessHeld blinkLamp s)

/-- PRESENCE_DEPARTURE (R20); while a reset is in progress the level alone is kept (log entry 10). -/
def execPresenceDeparture (slot : Slot) (low : Bool) (s : State) : Host.Outcome State Fault Refusal :=
  .next (if s.held.isSome then presencePin slot low s else presenceDeparts slot low s)

/-- RSENSE_DEPARTURE (R140); while a reset is in progress the output alone is kept (log entry 10). -/
def execRsenseDeparture (below : Bool) (s : State) : Host.Outcome State Fault Refusal :=
  .next (if s.held.isSome then comparatorPin below s else comparatorChanges below s)

/-- POWER_RESET (R76). -/
def execPowerReset (slDominant nresetLow : Bool) (decay : List NvDecay) (s : State) :
    Host.Outcome State Fault Refusal :=
  .next (powerResets slDominant nresetLow decay s)

/-- NRESET_ASSERTED (R76). -/
def execNresetAsserted (s : State) : Host.Outcome State Fault Refusal := .next (nresetFalls s)

/-- PIN_RESET (R76). -/
def execPinReset (slDominant : Bool) (s : State) : Host.Outcome State Fault Refusal := .next (nresetRises slDominant s)

end Sys2Proof.Machine
end

