-- ==== Sys2Proof/Machine/LineEvents.lean ====
section
/-! DEFINITION. The meanings of the service line events and of the reply window (R3, R4, R7 to R11, R15, R16). -/

namespace Sys2Proof.Machine

/-- START_MARK (R3). -/
def execStartMark (s : State) : Host.Outcome State Fault Refusal :=
  .next (unlessHeld (fun s => s.onPort (·.pulse Port.markSeen)) s)

/-- END_OF_DATA (R4, R6, R12). -/
def execEndOfData (s : State) : Host.Outcome State Fault Refusal := .next (unlessHeld endOfData s)

/-- NOISE_EVENT (R8). -/
def execNoiseEvent (s : State) : Host.Outcome State Fault Refusal :=
  .next (unlessHeld (fun s => s.onPort (·.pulse Port.noiseSeen)) s)

/-- BREAK (R9). -/
def execLineBreak (s : State) : Host.Outcome State Fault Refusal := .next (unlessHeld levelReaches300 s)

/-- BREAK_END (R9). -/
def execBreakEnd (s : State) : Host.Outcome State Fault Refusal :=
  .next (unlessHeld (fun s => s.onPort Port.breakEnds) s)

/-- STUCK (R10). -/
def execStuck (s : State) : Host.Outcome State Fault Refusal := .next (unlessHeld levelReaches20ms s)

/-- STUCK_CLEAR (R11). -/
def execStuckClear (s : State) : Host.Outcome State Fault Refusal :=
  .next (unlessHeld (fun s => s.onPort Port.stuckClears) s)

/-- STUCK_WAIT_RESTART (R11); the row tells both edges of a pulse (DESIGN CHOICE, log entry 23). -/
def execStuckWaitRestart (s : State) : Host.Outcome State Fault Refusal :=
  .next (unlessHeld (fun s => s.onPort Port.stuckWaits) s)

/-- BIT_PULSE (R2, R3). -/
def execBitPulse (width spacing : Nat) (s : State) : Host.Outcome State Fault Refusal :=
  .next (unlessHeld (fun s => s.onPort (·.pulse (·.pulseSeen width spacing))) s)

/-- REPLY_START (R15). -/
def execReplyStart (dominant : Bool) (s : State) : Host.Outcome State Fault Refusal :=
  .next (unlessHeld (replyStarts dominant) s)

/-- REPLY_COLLISION (R16). -/
def execReplyCollision (s : State) : Host.Outcome State Fault Refusal := .next (unlessHeld replyCutOff s)

/-- REPLY_COMPLETE (R7, R15). -/
def execReplyComplete (dominant : Bool) (s : State) : Host.Outcome State Fault Refusal :=
  .next (unlessHeld (replyCompletes dominant) s)

/-- END_OF_FRAME (R7); it cannot come while no reply awaits it (log entry 4). -/
def execEndOfFrame (s : State) : Host.Outcome State Fault Refusal :=
  .next (unlessHeld (fun s => s.onPort Port.seeEdge) s)

/-- DOMINANT_EDGE_AFTER_REPLY (R7); the pulse it opens is classified when it ends, by its own row. -/
def execDominantEdgeAfterReply (s : State) : Host.Outcome State Fault Refusal :=
  .next (unlessHeld (fun s => s.onPort Port.seeEdge) s)

end Sys2Proof.Machine
end

