-- ==== Sys2Proof/Machine/Requests.lean ====
section
/-! DEFINITION. The meanings of the requests: each is its whole frame, received and taken (R12, log entry 5). -/

namespace Sys2Proof.Machine

/-- UNKNOWN_KIND: a good frame whose kind byte is the operand (R12, step 3). -/
def execUnknownKind (header kind : Byte) (payload : List Byte) (s : State) : Host.Outcome State Fault Refusal :=
  .next (unlessHeld (deliver header kind payload) s)

/-- ENROL (R22). -/
def execEnrol (header : Byte) (payload : List Byte) (s : State) : Host.Outcome State Fault Refusal :=
  .next (unlessHeld (deliver header RequestKind.enrol.byte payload) s)

/-- LEAVE (R27). -/
def execLeave (header : Byte) (payload : List Byte) (s : State) : Host.Outcome State Fault Refusal :=
  .next (unlessHeld (deliver header RequestKind.leave.byte payload) s)

/-- STATUS (R160). -/
def execStatus (header : Byte) (payload : List Byte) (s : State) : Host.Outcome State Fault Refusal :=
  .next (unlessHeld (deliver header RequestKind.status.byte payload) s)

/-- IDENT (R34). -/
def execIdent (header : Byte) (payload : List Byte) (s : State) : Host.Outcome State Fault Refusal :=
  .next (unlessHeld (deliver header RequestKind.ident.byte payload) s)

/-- ARM (R32). -/
def execArm (header : Byte) (payload : List Byte) (s : State) : Host.Outcome State Fault Refusal :=
  .next (unlessHeld (deliver header RequestKind.arm.byte payload) s)

/-- PARAM_SET (R73, R74). -/
def execParamSet (header : Byte) (payload : List Byte) (s : State) : Host.Outcome State Fault Refusal :=
  .next (unlessHeld (deliver header RequestKind.paramSet.byte payload) s)

/-- PARAM_GET (R75). -/
def execParamGet (header : Byte) (payload : List Byte) (s : State) : Host.Outcome State Fault Refusal :=
  .next (unlessHeld (deliver header RequestKind.paramGet.byte payload) s)

/-- MAP_WRITE (R41 to R45). -/
def execMapWrite (header : Byte) (payload : List Byte) (s : State) : Host.Outcome State Fault Refusal :=
  .next (unlessHeld (deliver header RequestKind.mapWrite.byte payload) s)

/-- MAP_READ (R46). -/
def execMapRead (header : Byte) (payload : List Byte) (s : State) : Host.Outcome State Fault Refusal :=
  .next (unlessHeld (deliver header RequestKind.mapRead.byte payload) s)

/-- MAP_VALIDATE (R48). -/
def execMapValidate (header : Byte) (payload : List Byte) (s : State) : Host.Outcome State Fault Refusal :=
  .next (unlessHeld (deliver header RequestKind.mapValidate.byte payload) s)

/-- MAP_BURN (R167, R168). -/
def execMapBurn (header : Byte) (payload : List Byte) (s : State) : Host.Outcome State Fault Refusal :=
  .next (unlessHeld (deliver header RequestKind.mapBurn.byte payload) s)

/-- CERT_COMMIT (R170, R171). -/
def execCertCommit (header : Byte) (payload : List Byte) (s : State) : Host.Outcome State Fault Refusal :=
  .next (unlessHeld (deliver header RequestKind.certCommit.byte payload) s)

/-- CERT_READ (R173). -/
def execCertRead (header : Byte) (payload : List Byte) (s : State) : Host.Outcome State Fault Refusal :=
  .next (unlessHeld (deliver header RequestKind.certRead.byte payload) s)

/-- CAMPAIGN_START (R58, R59). -/
def execCampaignStart (header : Byte) (payload : List Byte) (s : State) : Host.Outcome State Fault Refusal :=
  .next (unlessHeld (deliver header RequestKind.campaignStart.byte payload) s)

/-- CAMPAIGN_PAUSE (R62). -/
def execCampaignPause (header : Byte) (payload : List Byte) (s : State) : Host.Outcome State Fault Refusal :=
  .next (unlessHeld (deliver header RequestKind.campaignPause.byte payload) s)

/-- CAMPAIGN_RESUME (R63). -/
def execCampaignResume (header : Byte) (payload : List Byte) (s : State) : Host.Outcome State Fault Refusal :=
  .next (unlessHeld (deliver header RequestKind.campaignResume.byte payload) s)

/-- CAMPAIGN_ABORT (R64). -/
def execCampaignAbort (header : Byte) (payload : List Byte) (s : State) : Host.Outcome State Fault Refusal :=
  .next (unlessHeld (deliver header RequestKind.campaignAbort.byte payload) s)

/-- RESTART (R77). -/
def execRestart (header : Byte) (payload : List Byte) (s : State) : Host.Outcome State Fault Refusal :=
  .next (unlessHeld (deliver header RequestKind.restart.byte payload) s)

/-- FETCH (R100, R101). -/
def execFetch (header : Byte) (payload : List Byte) (s : State) : Host.Outcome State Fault Refusal :=
  .next (unlessHeld (deliver header RequestKind.fetch.byte payload) s)

/-- REPORT (R107 to R112). -/
def execReport (header : Byte) (payload : List Byte) (s : State) : Host.Outcome State Fault Refusal :=
  .next (unlessHeld (deliver header RequestKind.report.byte payload) s)

/-- RESULT_READ (R153). -/
def execResultRead (header : Byte) (payload : List Byte) (s : State) : Host.Outcome State Fault Refusal :=
  .next (unlessHeld (deliver header RequestKind.resultRead.byte payload) s)

/-- FINDING_READ (R159). -/
def execFindingRead (header : Byte) (payload : List Byte) (s : State) : Host.Outcome State Fault Refusal :=
  .next (unlessHeld (deliver header RequestKind.findingRead.byte payload) s)

end Sys2Proof.Machine
end

