-- ==== Sys2Proof/Machine/Dispatch.lean ====
section
/-! DEFINITION. Which meaning each command has. -/

namespace Sys2Proof.Machine

def exec (i : Instr) (s : State) : Host.Outcome State Fault Refusal :=
  match i with
  | .startMark => Sys2Proof.Machine.execStartMark s
  | .endOfData => Sys2Proof.Machine.execEndOfData s
  | .noiseEvent => Sys2Proof.Machine.execNoiseEvent s
  | .lineBreak => Sys2Proof.Machine.execLineBreak s
  | .breakEnd => Sys2Proof.Machine.execBreakEnd s
  | .stuck => Sys2Proof.Machine.execStuck s
  | .stuckClear => Sys2Proof.Machine.execStuckClear s
  | .replyStart dominant => Sys2Proof.Machine.execReplyStart dominant s
  | .replyCollision => Sys2Proof.Machine.execReplyCollision s
  | .replyComplete dominant => Sys2Proof.Machine.execReplyComplete dominant s
  | .endOfFrame => Sys2Proof.Machine.execEndOfFrame s
  | .unknownKind header kind payload => Sys2Proof.Machine.execUnknownKind header kind payload s
  | .enrol header payload => Sys2Proof.Machine.execEnrol header payload s
  | .leave header payload => Sys2Proof.Machine.execLeave header payload s
  | .status header payload => Sys2Proof.Machine.execStatus header payload s
  | .ident header payload => Sys2Proof.Machine.execIdent header payload s
  | .arm header payload => Sys2Proof.Machine.execArm header payload s
  | .paramSet header payload => Sys2Proof.Machine.execParamSet header payload s
  | .paramGet header payload => Sys2Proof.Machine.execParamGet header payload s
  | .mapWrite header payload => Sys2Proof.Machine.execMapWrite header payload s
  | .mapRead header payload => Sys2Proof.Machine.execMapRead header payload s
  | .mapValidate header payload => Sys2Proof.Machine.execMapValidate header payload s
  | .scanComplete => Sys2Proof.Machine.execScanComplete s
  | .mapBurn header payload => Sys2Proof.Machine.execMapBurn header payload s
  | .burnComplete flaws => Sys2Proof.Machine.execBurnComplete flaws s
  | .certCommit header payload => Sys2Proof.Machine.execCertCommit header payload s
  | .certWriteComplete flaws => Sys2Proof.Machine.execCertWriteComplete flaws s
  | .certRead header payload => Sys2Proof.Machine.execCertRead header payload s
  | .campaignStart header payload => Sys2Proof.Machine.execCampaignStart header payload s
  | .campaignPause header payload => Sys2Proof.Machine.execCampaignPause header payload s
  | .campaignResume header payload => Sys2Proof.Machine.execCampaignResume header payload s
  | .campaignAbort header payload => Sys2Proof.Machine.execCampaignAbort header payload s
  | .restart header payload => Sys2Proof.Machine.execRestart header payload s
  | .fetch header payload => Sys2Proof.Machine.execFetch header payload s
  | .report header payload => Sys2Proof.Machine.execReport header payload s
  | .resultRead header payload => Sys2Proof.Machine.execResultRead header payload s
  | .findingRead header payload => Sys2Proof.Machine.execFindingRead header payload s
  | .presenceSeated slot => Sys2Proof.Machine.execPresenceSeated slot s
  | .presenceLoss slot => Sys2Proof.Machine.execPresenceLoss slot s
  | .planEnd => Sys2Proof.Machine.execPlanEnd s
  | .waitExpiry => Sys2Proof.Machine.execWaitExpiry s
  | .announceEnd => Sys2Proof.Machine.execAnnounceEnd s
  | .phase1End => Sys2Proof.Machine.execPhase1End s
  | .gapEnd => Sys2Proof.Machine.execGapEnd s
  | .phase2End => Sys2Proof.Machine.execPhase2End s
  | .reportDeadline => Sys2Proof.Machine.execReportDeadline s
  | .graceEnd => Sys2Proof.Machine.execGraceEnd s
  | .voidSettleEnd => Sys2Proof.Machine.execVoidSettleEnd s
  | .rsenseDeparture below => Sys2Proof.Machine.execRsenseDeparture below s
  | .sagFilterExpiry => Sys2Proof.Machine.execSagFilterExpiry s
  | .refclkEdge => Sys2Proof.Machine.execRefclkEdge s
  | .clockLoss => Sys2Proof.Machine.execClockLoss s
  | .returnTimerExpiry => Sys2Proof.Machine.execReturnTimerExpiry s
  | .lampBlink => Sys2Proof.Machine.execLampBlink s
  | .powerReset slDominant nresetLow decay => Sys2Proof.Machine.execPowerReset slDominant nresetLow decay s
  | .pinReset slDominant => Sys2Proof.Machine.execPinReset slDominant s
  | .bitPulse width spacing => Sys2Proof.Machine.execBitPulse width spacing s
  | .presenceDeparture slot low => Sys2Proof.Machine.execPresenceDeparture slot low s
  | .stuckWaitRestart => Sys2Proof.Machine.execStuckWaitRestart s
  | .nresetAsserted => Sys2Proof.Machine.execNresetAsserted s
  | .dominantEdgeAfterReply => Sys2Proof.Machine.execDominantEdgeAfterReply s

end Sys2Proof.Machine
end

