-- ==== Sys2Proof/Machine/Time.lean ====
section
/-! DEFINITION. The block's own clock: what an idle step does. One microsecond passes; a timer that runs out puts
its row's command in the queue (log entries 1, 2). -/

namespace Sys2Proof.Machine

/-- A timer a microsecond later; a stopped one stays stopped, one at 0 waits for its command. -/
def countDown (t : Option Nat) : Option Nat := t.map (· - 1)

/-- A timer runs out within this microsecond. -/
def runsOut (t : Option Nat) : Bool := t == some 1

/-- The command of a timer, if it runs out within this microsecond. -/
def dueNow (t : Option Nat) (c : Instr) : List Instr := if runsOut t then [c] else []

/-- The event of the epoch timer in an epoch state (R97, R102, R104, R107, R113, R114, R118). -/
def epochTimerEvent : EpochState → List Instr
  | .announce => [.announceEnd]
  | .phase1 => [.phase1End]
  | .gap => [.gapEnd]
  | .phase2 => [.phase2End]
  | .collecting => [.reportDeadline]
  | .grace => [.graceEnd]
  | .void => [.voidSettleEnd]
  | .none | .planning => []

/-- The event of a presence filter: the change of its filtered state (R20, R21). -/
def presenceEvent (n : Slot) (f : PresenceFilter) : Instr := if f.seated then .presenceLoss n else .presenceSeated n

/-- The events of the presence filters that settle within this microsecond, by slot. -/
def presenceEvents (pins : Table PresenceFilter 20) : List Instr :=
  pins.indexed.flatMap fun nf => dueNow nf.2.running (presenceEvent nf.1 nf.2)

/-- Every event of this microsecond, block by block. -/
def eventsNow (s : State) : List Instr :=
  dueNow s.port.stuckWait .stuckClear ++ presenceEvents s.nodes.presence
    ++ dueNow s.campaign.waitTimer .waitExpiry ++ dueNow s.campaign.blinkTimer .lampBlink
    ++ (if runsOut s.epoch.timer then epochTimerEvent s.epoch.state else [])
    ++ dueNow s.rail.filter .sagFilterExpiry ++ dueNow s.timebase.gap .clockLoss
    ++ dueNow s.timebase.returnTimer .returnTimerExpiry

/-- Put a command at a place of a list. -/
def insertAt : Nat → Instr → List Instr → List Instr
  | _, c, [] => [c]
  | 0, c, d :: ds => c :: d :: ds
  | k + 1, c, d :: ds => d :: insertAt k c ds

/-- Events of one instant in the order that the free draws give: any order may come out (log entry 2). -/
def arrange (draw : Nat) : List Instr → List Instr
  | [] => []
  | c :: cs => insertAt (Config.arrivalOrder draw % (cs.length + 1)) c (arrange (draw + 1) cs)

/-- A presence filter a microsecond later (R20). -/
def PresenceFilter.later (f : PresenceFilter) : PresenceFilter := { f with running := countDown f.running }

/-- The silence timer a microsecond later: it runs while the station is ACTIVE and holds at 10 s (R26). -/
def silenceLater (nt : NodeTable) : Nat :=
  if nt.station.state = .active then satInc Config.silenceMicros nt.silence else nt.silence

/-- Every timer a microsecond later. -/
def timersLater (s : State) : State :=
  (((((s.onPort fun p => { p with stuckWait := countDown p.stuckWait }).onNodes fun nt =>
    { nt with silence := silenceLater nt, presence := nt.presence.each PresenceFilter.later }).onCampaign fun c =>
    { c with waitTimer := countDown c.waitTimer, blinkTimer := countDown c.blinkTimer }).onEpoch fun e =>
    { e with timer := countDown e.timer }).onRail fun r => { r with filter := countDown r.filter }).onTimebase fun t =>
    { t with gap := countDown t.gap, returnTimer := countDown t.returnTimer }

/-- A microsecond passes: timers count, events due join the queue. -/
def tick (s : State) : State :=
  { timersLater s with
    pending := s.pending ++ arrange s.freeDraws (eventsNow s)
    freeDraws := s.freeDraws + (eventsNow s).length }

/-- An idle step; while a reset is in progress no time is counted (log entry 10). -/
def idleStep (s : State) : State := unlessHeld tick s

end Sys2Proof.Machine
end

