-- ==== Sys2Proof/WellFormed.lean ====
section
/-! DEFINITION. Which commands are well formed: their operands are ones the part could meet. -/

namespace Sys2Proof

/-- A request's payload fits the frame: the length field is at most 30 (R4, R177). -/
def payloadFits (payload : List Byte) : Bool := payload.length ≤ 30

/-- Every offset lies in a slot body of n bytes (R181). -/
def offsetsBelow (n : Nat) (flaws : List (Nat × Byte)) : Bool := flaws.all (fun f => f.1 < n)

/-- The bytes of a map generation slot body (R181). -/
def generationBytes : Nat := 2403

/-- The bytes of a certificate slot body (R181). -/
def certificateBytes : Nat := 43

/-- The check of a command's operands. -/
def Instr.wellFormed : Instr → Bool
  | .unknownKind _ k p => payloadFits p && (RequestKind.ofByte k).isNone
  | .enrol _ p | .leave _ p | .status _ p | .ident _ p | .arm _ p | .paramSet _ p | .paramGet _ p
  | .mapWrite _ p | .mapRead _ p | .mapValidate _ p | .mapBurn _ p | .certCommit _ p | .certRead _ p
  | .campaignStart _ p | .campaignPause _ p | .campaignResume _ p | .campaignAbort _ p | .restart _ p
  | .fetch _ p | .report _ p | .resultRead _ p | .findingRead _ p => payloadFits p
  | .burnComplete flaws => offsetsBelow generationBytes flaws
  | .certWriteComplete flaws => offsetsBelow certificateBytes flaws
  | .bitPulse width _ => 2 ≤ width && width < 30
  | .powerReset _ _ decay =>
      decay.all (fun d => d.offset < if d.certificate then certificateBytes else generationBytes)
  | .startMark | .endOfData | .noiseEvent | .lineBreak | .breakEnd | .stuck | .stuckClear
  | .replyStart _ | .replyCollision | .replyComplete _ | .endOfFrame | .scanComplete
  | .presenceSeated _ | .presenceLoss _ | .planEnd | .waitExpiry | .announceEnd | .phase1End | .gapEnd
  | .phase2End | .reportDeadline | .graceEnd | .voidSettleEnd | .rsenseDeparture _ | .sagFilterExpiry
  | .refclkEdge | .clockLoss | .returnTimerExpiry | .lampBlink | .pinReset _ | .presenceDeparture _ _
  | .stuckWaitRestart | .nresetAsserted | .dominantEdgeAfterReply => true

end Sys2Proof
end

