-- ==== Sys2Proof/Safety.lean ====
section
/-! DEFINITION. The words the claims use: the state a request leaves, and the laws of the device as predicates of
a state. -/

namespace Sys2Proof.Machine

/-! ## What taking a request leaves -/

/-- The state in which the owner of a request decides: its frame in the receive buffer, the arm record not live
(R12, R31). -/
def heard (header kind : Byte) (payload : List Byte) (s : State) : State :=
  { s with
    port :=
      { s.port with
        rxBytes := requestFrame header kind payload
        rxBits := []
        lineAtStart := if s.port.line = .receiving then s.port.lineAtStart else .idle
        arm := none } }

/-- The state once the reply is placed: REPLYING with the reply due; for a frame from address 31 the silence timer
at 0 (R12, R14, R26). -/
def replied (header : Byte) (a : Answer) (s : State) : State :=
  { s with
    port :=
      { s.port with
        line := .replying
        reply := a.bytes
        replyPhase := .due
        tx := []
        stuckWait := none
        levelFromReset := false }
    nodes :=
      if addressOf header = 31 ∧ a.code ≠ .stationHeld then { s.nodes with silence := 0 } else s.nodes }

/-- A request of a kind, refused with no effect on anything but the port and the silence timer (R14). -/
def refusedWith (k : RequestKind) (header : Byte) (payload : List Byte) (code : ReplyCode) (s : State) : State :=
  replied header (.refusal code) (heard header k.byte payload s)

/-- The row of the table that a request kind is. -/
def requestRow : RequestKind → Byte → List Byte → Instr
  | .enrol => .enrol
  | .leave => .leave
  | .status => .status
  | .ident => .ident
  | .arm => .arm
  | .paramSet => .paramSet
  | .paramGet => .paramGet
  | .mapWrite => .mapWrite
  | .mapRead => .mapRead
  | .mapValidate => .mapValidate
  | .mapBurn => .mapBurn
  | .campaignStart => .campaignStart
  | .campaignPause => .campaignPause
  | .campaignResume => .campaignResume
  | .campaignAbort => .campaignAbort
  | .fetch => .fetch
  | .report => .report
  | .resultRead => .resultRead
  | .findingRead => .findingRead
  | .certCommit => .certCommit
  | .certRead => .certRead
  | .restart => .restart

/-- No reset is in progress, the frame comes from address 31 and the station record is ACTIVE. -/
def stationMay (header : Byte) (s : State) : Prop :=
  s.held = none ∧ addressOf header = 31 ∧ s.nodes.station.state = .active

/-- No reset is in progress, the frame comes from slot n and its probe record is ACTIVE. -/
def probeMay (n : Slot) (header : Byte) (s : State) : Prop :=
  s.held = none ∧ addressOf header = n.val ∧ (s.nodes.probes.at n).state = .active

/-! ## Laws of the device, as invariants -/

/-- Epochs exist exactly while the campaign is RUNNING (R57, R97). -/
def RunningLaw (s : State) : Prop := s.campaign.state = .running ↔ s.epoch.state ≠ .none

/-- QSTB and DSTB are never high together, and both are low outside PHASE1 and PHASE2 (R104). -/
def StrobeLaw (s : State) : Prop :=
  ¬(s.epoch.qstb = true ∧ s.epoch.dstb = true)
    ∧ (s.epoch.state ≠ .phase1 → s.epoch.state ≠ .phase2 → s.epoch.qstb = false ∧ s.epoch.dstb = false)

/-- The Findings List holds at most 64 records and no two share a key (R154). -/
def FindingsLaw (s : State) : Prop :=
  s.findings.list.length ≤ 64
    ∧ s.findings.list.Pairwise (fun f g => ¬(f.kind = g.kind ∧ f.laneEnd = g.laneEnd))
    ∧ ∀ f ∈ s.findings.list, 1 ≤ f.hits ∧ f.hits ≤ 255

/-- A slot bears its done mark only with its begun mark, and the slot being written is begun (R164). -/
def StoreLaw (s : State) : Prop :=
  (∀ n : NvIx, (s.nv.gens.at n).done = true → (s.nv.gens.at n).begun = true)
    ∧ (∀ n : NvIx, (s.nv.certs.at n).done = true → (s.nv.certs.at n).begun = true)
    ∧ (∀ w, s.nv.state = .burning → s.nv.write = some w → (s.nv.gens.at w.slot).begun = true)
    ∧ (∀ w, s.nv.state = .writingCert → s.nv.write = some w → (s.nv.certs.at w.slot).begun = true)

/-- The largest value of a slot reference: 65535 times 256 (R121). -/
def referenceMax : Nat := 16776960

/-- Every slot reference stays within 0 to 16,776,960, with the parameters within their ranges and the quiet
integrals received within 0 to 65535 (R72, R107, R119, R121). -/
def ReferenceLaw (s : State) : Prop :=
  (∀ n : Slot, s.grading.refs.at n ≤ referenceMax)
    ∧ (∀ n : Slot, s.grading.refSnap.at n ≤ referenceMax)
    ∧ (∀ i : Fin 16, (generalRange.at i).1 ≤ s.p i ∧ s.p i ≤ (generalRange.at i).2)
    ∧ (∀ n : Slot, ∀ q ∈ samplesOf (s.epoch.received.at n), q ≤ 65535)

/-- The trials of a plan (R83, R86, R89, R90): at most 32, no node with more than 8 drive duties, no node with more
listen lanes than its channels in the snapshot, both nodes in the snapshot, and no two trials in conflict. -/
def TrialLaw (s : State) : Prop :=
  s.planner.trials.length ≤ 32
    ∧ (∀ n : Slot, drivesAt s.planner.trials n ≤ 8)
    ∧ (∀ n : Slot, ∀ c, channelsIn s.planner.snapshot n = some c → listensAt s.planner.trials n ≤ c)
    ∧ (∀ t ∈ s.planner.trials, (channelsIn s.planner.snapshot t.driver.slot).isSome
        ∧ (channelsIn s.planner.snapshot t.receiver.slot).isSome)
    ∧ s.planner.trials.Pairwise (fun y x => blocks y x.driver x.receiver = false)

/-- While no reset is in progress the lamps are those of the table of R71. -/
def LampLaw (s : State) : Prop := s.held = none → s.campaign.lamps = lampsFor s

/-- Legs settled, by the nine counts (R152). -/
def settledCount (s : State) : Nat := s.results.counts.toList.sum

/-- The legs held by trials. -/
def heldLegs (s : State) : List LegIx := (heldTrials s).map (·.leg)

/-- No leg is pending twice, none is both pending and held, and trial numbers are not repeated (R79, R83). -/
def QueueLaw (s : State) : Prop :=
  (s.planner.queue ++ heldLegs s).Nodup ∧ (s.planner.trials.map (·.number)).Nodup

/-- A leg pending or held is unsettled and has had at most as many attempts as the latched limit; no leg has had
more than one plus the limit, so none more than four (R79, R132). -/
def AttemptLaw (s : State) : Prop :=
  s.campaign.retestLimit ≤ 3 ∧ s.p 6 ≤ 3
    ∧ (∀ l ∈ s.planner.queue ++ heldLegs s,
        (s.results.records.at l).settled = false ∧ (s.results.records.at l).attempts ≤ s.campaign.retestLimit)
    ∧ ∀ l : LegIx, (s.results.records.at l).attempts ≤ 1 + s.campaign.retestLimit

/-- While the campaign is RUNNING, WAITING or PAUSED every leg of the map is settled, pending or held (R59). -/
def AccountLaw (s : State) : Prop :=
  s.campaign.state.live = true →
    settledCount s + s.planner.queue.length + (heldTrials s).length = s.map.legList.length

/-- The queue and the trial table are empty while the campaign is IDLE, DONE or ABORTED, and the table is empty
whenever no epoch is past its plan build (R79, R83). -/
def EmptyLaw (s : State) : Prop :=
  (s.campaign.state.live = false → s.planner.queue = [] ∧ s.planner.trials = [])
    ∧ (s.epoch.state = .none ∨ s.epoch.state = .planning → s.planner.trials = [])

/-- A counter never exceeds its stated maximum (R17, R139, R145, R57, R19, R26, R154). -/
def CounterLaw (s : State) : Prop :=
  (s.port.checkErrors ≤ 65535 ∧ s.port.framingErrors ≤ 65535 ∧ s.port.noiseEvents ≤ 65535
      ∧ s.port.breaks ≤ 65535 ∧ s.port.collisions ≤ 65535 ∧ s.port.lineFaults ≤ 65535)
    ∧ (s.rail.sagCount ≤ 65535 ∧ s.rail.voidTotal ≤ 65535 ∧ s.rail.consecutive ≤ 255)
    ∧ s.timebase.lossCount ≤ 65535 ∧ s.campaign.number ≤ 255 ∧ s.findings.overflow ≤ 65535
    ∧ s.nodes.silence ≤ Config.silenceMicros ∧ ∀ n : Slot, (s.nodes.probes.at n).misses ≤ 7

/-- The counts tell the records: each verdict's count is the number of records settled with that verdict, the nine
sum to the settled records, and the DEGRADED leg count is the number of records with the flag (R152). -/
def CountLaw (s : State) : Prop :=
  (∀ (v : Verdict) (i : Fin 9), v.countIx = some i →
      s.results.counts.at i = s.results.records.toList.countP (fun r => r.settled && r.verdict == v))
    ∧ settledCount s = s.results.records.toList.countP (·.settled)
    ∧ s.results.degraded = s.results.records.toList.countP (·.degraded)

/-- The epoch states from PHASE1 to GRACE, in which the announce has ended and the epoch is not voided. -/
def EpochState.measured : EpochState → Prop
  | .phase1 | .gap | .phase2 | .collecting | .grace => True
  | .none | .planning | .announce | .void => False

/-- The standing of reports within an epoch (R85, R94, R95, R101, R102, R106, R109, R111). What a node has sent is as
long as its cursor, no longer than its entry list, and of its entries' kinds; up to announce end nothing has been sent
and no node is released. The nodes of every HELD trial have its duties and its entries. From PHASE1 to GRACE those
nodes have fetched and are not released, and one of them at least has entries left to send. -/
def ReportLaw (s : State) : Prop :=
  (s.epoch.state ≠ .none → ∀ n : Slot,
      (s.epoch.received.at n).length = (s.nodes.probes.at n).cursor
        ∧ (s.nodes.probes.at n).cursor ≤ (s.planner.entries.at n).length
        ∧ ∀ (i : Nat) (e : Entry) (v : EntryValue), (s.planner.entries.at n)[i]? = some e →
            (s.epoch.received.at n)[i]? = some v → (e.kind = .drive ↔ ∃ st, v = .drive st))
    ∧ (s.epoch.state = .planning ∨ s.epoch.state = .announce → ∀ n : Slot,
        (s.nodes.probes.at n).cursor = 0 ∧ s.epoch.released.at n = false)
    ∧ (∀ y ∈ heldTrials s,
        s.planner.duties.at y.driver.slot ≠ [] ∧ s.planner.duties.at y.receiver.slot ≠ []
          ∧ (⟨.drive, y.driver.lane, y.number⟩ : Entry) ∈ s.planner.entries.at y.driver.slot
          ∧ (⟨.expected, y.receiver.lane, y.number⟩ : Entry) ∈ s.planner.entries.at y.receiver.slot)
    ∧ (s.epoch.state.measured → ∀ y ∈ heldTrials s,
        (∀ n ∈ [y.driver.slot, y.receiver.slot],
            (s.nodes.probes.at n).fetchComplete = true ∧ s.epoch.released.at n = false)
          ∧ ∃ n ∈ [y.driver.slot, y.receiver.slot],
              (s.nodes.probes.at n).cursor < (s.planner.entries.at n).length)

/-! ## The map a validation grants (R47, R50) -/

/-- Link k of the map is in use and names a lane end. -/
def names (m : MapStore) (k : LinkIx) (e : LaneEnd) : Prop :=
  (m.links.at k).inUse = true ∧ ((m.links.at k).endA = e ∨ (m.links.at k).endB = e)

/-- Every lane end belongs to at most one link, and the two ends of every link lie in different slots (R47). -/
def MapLaw (m : MapStore) : Prop :=
  (∀ j k : LinkIx, ∀ e : LaneEnd, names m j e → names m k e → j = k)
    ∧ ∀ k : LinkIx, (m.links.at k).inUse = true → (m.links.at k).endA.slot ≠ (m.links.at k).endB.slot

/-- Records a validation would grant VALID: some in use, keeping the map law (R50). -/
def LawfulRecords (links : Table LinkRecord 480) : Prop :=
  1 ≤ countInUse links ∧ MapLaw { MapStore.empty with links := links }

/-- The working map: the count is that of the records, a record not in use holds the values of R36, the error record
is none in CHECKING and VALID; a VALID map keeps the map law and its occupancy table names the link of every lane
end; in every other status the table is all FREE (R36, R47, R51, R53), in CHECKING by the model's choice (log entry
29). -/
def WorkingMapLaw (m : MapStore) : Prop :=
  m.inUse = countInUse m.links
    ∧ (∀ k : LinkIx, (m.links.at k).inUse = true ∨ m.links.at k = LinkRecord.unused)
    ∧ (m.status = .checking ∨ m.status = .valid → m.error = .none)
    ∧ (m.status = .valid → LawfulRecords m.links
        ∧ ∀ (e : LaneEnd) (k : LinkIx), m.occupancy.at e.index = some k ↔ names m k e)
    ∧ (m.status ≠ .valid → m.occupancy = Table.fill 960 none)

/-- Every intact DONE generation, and one being burned, holds lawful records, and a slot being burned is not DONE
(R167, R168, R176). -/
def GenerationLaw (nv : NvStore) : Prop :=
  (∀ n : NvIx, (nv.gens.at n).done = true → intact (nv.gens.at n).body = true →
      LawfulRecords (linksOfBody (nv.gens.at n).body))
    ∧ ∀ w, nv.state = .burning → nv.write = some w →
        (nv.gens.at w.slot).done = false ∧ LawfulRecords (linksOfBody w.bytes)

end Sys2Proof.Machine
end

