-- ==== Sys2Proof/Certificates/Slice0/Obligations.lean ====
section
/-! DEFINITION. The statements for the provers. Each docstring names the rules it formalises; a choice of the model
is named by its log entry. -/

open Sys2Proof Sys2Proof.Machine

/-! ## The queue, the resets in progress, the idle step -/

/-- One step takes the command at the front of the queue and runs exec on it with the queue's rest (log entry 22). -/
def Obligations.StepTakesFront : Prop :=
  ∀ (c : Instr) (rest : List Instr) (s : State),
    step { s with pending := c :: rest } = exec c { s with pending := rest }

/-- No command changes the queue of waiting commands or the count of free draws: the queue belongs to step
(log entries 2, 22). -/
def Obligations.CommandsKeepQueue : Prop :=
  ∀ (c : Instr) (s t : State), exec c s = .next t → t.pending = s.pending ∧ t.freeDraws = s.freeDraws

/-- An idle step lets one microsecond pass (log entry 1): it changes timers, the silence timer, the queue and the
count of free draws alone, and what it puts in the queue is some arrangement of the events then due (log entry 2). -/
def Obligations.IdleStepQueuesDueEvents : Prop :=
  ∀ s : State, s.pending = [] → s.held = none →
    ∃ t, step s = .next t ∧ t.pending.Perm (eventsNow s)
      ∧ t.freeDraws = s.freeDraws + (eventsNow s).length
      ∧ t = { timersLater s with pending := t.pending, freeDraws := t.freeDraws }

/-- While a POWER or PIN reset is in progress the part receives nothing and runs nothing: every command but the
input levels and the reset rows leaves the whole state as it is (R18, R76; log entry 10). -/
def Obligations.ResetInProgressIgnores : Prop :=
  ∀ (c : Instr) (s : State), s.held ≠ none →
    (∀ n low, c ≠ .presenceDeparture n low) → (∀ b, c ≠ .rsenseDeparture b) → (∀ d l x, c ≠ .powerReset d l x) →
    (∀ d, c ≠ .pinReset d) → c ≠ .nresetAsserted → exec c s = .next s

/-- A command that tells an event which cannot occur in the state leaves the whole state as it is, outside a reset
as within one (log entry 4): the ends of work not in flight, of timers not running, of replies not open, and levels
that do not change. -/
def Obligations.OutOfPlaceIgnored : Prop :=
  ∀ (s : State), s.held = none →
    let ignored := fun c => exec c s = .next s
    (s.port.line ≠ .receiving → ignored .endOfData)
    ∧ (s.port.line ≠ .broken → s.port.line ≠ .stuck → ignored .breakEnd)
    ∧ (s.port.line ≠ .stuck → ignored .stuckClear ∧ ignored .stuckWaitRestart)
    ∧ (¬(s.port.line = .replying ∧ s.port.replyPhase = .due) → ∀ d, ignored (.replyStart d))
    ∧ (¬(s.port.line = .replying ∧ (s.port.replyPhase = .due ∨ s.port.replyPhase = .sending)) →
        ignored .replyCollision ∧ ∀ d, ignored (.replyComplete d))
    ∧ (¬(s.port.line = .replying ∧ s.port.replyPhase = .complete) →
        ignored .endOfFrame ∧ ignored .dominantEdgeAfterReply)
    ∧ (s.port.levelFromReset = false → s.port.line = .broken →
        ignored .startMark ∧ ∀ w g, ignored (.bitPulse w g))
    ∧ (s.map.status ≠ .checking → ignored .scanComplete)
    ∧ (s.nv.state ≠ .burning → ∀ f, ignored (.burnComplete f))
    ∧ (s.nv.state ≠ .writingCert → ∀ f, ignored (.certWriteComplete f))
    ∧ (∀ n : Slot, ((s.nodes.presence.at n).seated = true → ignored (.presenceSeated n))
        ∧ ((s.nodes.presence.at n).seated = false → ignored (.presenceLoss n)))
    ∧ (s.campaign.state ≠ .waiting → ignored .waitExpiry) ∧ (s.campaign.state ≠ .paused → ignored .lampBlink)
    ∧ (s.epoch.state ≠ .planning → ignored .planEnd) ∧ (s.epoch.state ≠ .announce → ignored .announceEnd)
    ∧ (s.epoch.state ≠ .phase1 → ignored .phase1End) ∧ (s.epoch.state ≠ .gap → ignored .gapEnd)
    ∧ (s.epoch.state ≠ .phase2 → ignored .phase2End) ∧ (s.epoch.state ≠ .collecting → ignored .reportDeadline)
    ∧ (s.epoch.state ≠ .grace → ignored .graceEnd) ∧ (s.epoch.state ≠ .void → ignored .voidSettleEnd)
    ∧ ignored (.rsenseDeparture s.rail.below)
    ∧ (s.rail.filter = none → ignored .sagFilterExpiry)
    ∧ (s.timebase.running = false → ignored .clockLoss)
    ∧ (s.timebase.returnTimer = none → ignored .returnTimerExpiry)

/-! ## The service line -/

/-- START_MARK on a line that is IDLE, or at an edge before end-of-frame, begins a frame; in RECEIVING it counts
one framing error and begins a new frame; in each case the line state before it is recorded (R3, R7). While a level
found dominant at the end of a reset is being measured, the row tells the end of that level and changes nothing else
(R18; log entry 9). -/
def Obligations.StartMarkBeginsFrame : Prop :=
  (∀ s : State, s.held = none → s.port.levelFromReset = true →
    exec .startMark s = .next { s with port := { s.port with levelFromReset := false } })
  ∧ ∀ s : State, s.held = none → s.port.levelFromReset = false →
    (s.port.line = .idle →
      exec .startMark s = .next { s with port := { s.port with
        line := .receiving, lineAtStart := .idle, rxBytes := [], rxBits := [] } })
    ∧ (s.port.line = .receiving →
      exec .startMark s = .next { s with port := { s.port with
        lineAtStart := .receiving, rxBytes := [], rxBits := []
        framingErrors := satInc 65535 s.port.framingErrors } })
    ∧ (s.port.line = .replying → s.port.replyPhase = .complete →
      exec .startMark s = .next { s with port := { s.port with
        line := .receiving, lineAtStart := .idle, rxBytes := [], rxBits := [], replyPhase := .none, tx := [] } })

/-- BIT_PULSE in RECEIVING: a pulse of 2 us to under 5 us is a 1 and one of 5 us to under 10 us is a 0, appended to
the byte being assembled, every eighth bit completing a byte, most significant bit first; one of 10 us to under
30 us, a slot that opens less than 9 us after the one before, or a bit after 34 bytes, is one framing error, and the
line is IDLE (R1, R2, R3). After a complete reply the pulse's edge makes the line IDLE (R7), and the end of a level
found dominant at the end of a reset changes nothing else (R18; log entry 9). -/
def Obligations.BitPulseReceives : Prop :=
  (∀ (width spacing : Nat) (s : State), s.held = none →
    (s.port.levelFromReset = true →
      exec (.bitPulse width spacing) s = .next { s with port := { s.port with levelFromReset := false } })
    ∧ (s.port.levelFromReset = false → s.port.line = .replying → s.port.replyPhase = .complete →
      exec (.bitPulse width spacing) s = .next { s with port := { s.port with
        line := .idle, replyPhase := .none, tx := [] } }))
  ∧ ∀ (width spacing : Nat) (s : State), s.held = none → s.port.levelFromReset = false → s.port.line = .receiving →
    2 ≤ width → width < 30 →
    let early := (s.port.rxBytes ≠ [] ∨ s.port.rxBits ≠ []) ∧ spacing < 9
    let bits := s.port.rxBits ++ [decide (width < 5)]
    (10 ≤ width ∨ early ∨ 34 ≤ s.port.rxBytes.length →
      exec (.bitPulse width spacing) s = .next { s with port := { s.port with
        line := .idle, rxBytes := [], rxBits := [], framingErrors := satInc 65535 s.port.framingErrors } })
    ∧ (width < 10 → ¬early → s.port.rxBytes.length < 34 → s.port.rxBits.length = 7 →
      exec (.bitPulse width spacing) s = .next { s with port := { s.port with
        rxBytes := s.port.rxBytes ++ [byteOfBits bits], rxBits := [] } })
    ∧ (width < 10 → ¬early → s.port.rxBytes.length < 34 → s.port.rxBits.length ≠ 7 →
      exec (.bitPulse width spacing) s = .next { s with port := { s.port with rxBits := bits } })

/-- NOISE_EVENT counts in IDLE and in RECEIVING, where it discards the frame with no other error counted and the
line becomes IDLE, and after a complete reply, whose edge makes the line IDLE; on a line that is BREAK, or while a
reply is open, it changes nothing, and the end of a level found dominant at the end of a reset is not counted (log
entry 9). BREAK makes the line state BREAK: a frame in progress is discarded with no error counted, the arm record is
cleared, and a reply not yet complete has collided (log entry 8), so that a RESTART that waited for it comes first.
BREAK_END then counts the break, and the line is IDLE (R7, R8, R9, R16, R18). -/
def Obligations.DisturbancesCount : Prop :=
  ∀ s : State, s.held = none →
    let broken : Port := { s.port with
      line := .broken, rxBytes := [], rxBits := [], replyPhase := .none, tx := [], arm := none
      levelFromReset := false }
    (s.port.levelFromReset = false →
      (s.port.line = .idle →
        exec .noiseEvent s = .next { s with port := { s.port with
          noiseEvents := satInc 65535 s.port.noiseEvents } })
      ∧ (s.port.line = .receiving →
        exec .noiseEvent s = .next { s with port := { s.port with
          line := .idle, rxBytes := [], rxBits := [], noiseEvents := satInc 65535 s.port.noiseEvents } })
      ∧ (s.port.line = .replying → s.port.replyPhase = .complete →
        exec .noiseEvent s = .next { s with port := { s.port with
          line := .idle, replyPhase := .none, tx := [], noiseEvents := satInc 65535 s.port.noiseEvents } })
      ∧ (s.port.line = .broken ∨ (s.port.line = .replying ∧ s.port.replyPhase ≠ .complete) →
        exec .noiseEvent s = .next s))
    ∧ (s.port.levelFromReset = true →
        exec .noiseEvent s = .next { s with port := { s.port with levelFromReset := false } })
    ∧ (s.port.line = .idle ∨ s.port.line = .receiving ∨ (s.port.line = .replying ∧ s.port.replyPhase = .complete) →
        exec .lineBreak s = .next { s with port := broken })
    ∧ (s.port.line = .replying → s.port.replyPhase = .due ∨ s.port.replyPhase = .sending →
        (s.campaign.restartDue = false →
          exec .lineBreak s = .next { s with port := { broken with collisions := satInc 65535 s.port.collisions } })
        ∧ (s.campaign.restartDue = true →
          exec .lineBreak s = .next { restartReset true s with port := { Port.afterReset false with line := .broken } }))
    ∧ (s.port.line = .broken →
        exec .breakEnd s = .next { s with port := { s.port with
          line := .idle, breaks := satInc 65535 s.port.breaks } })

/-- STUCK on a line that is BREAK: the line state becomes STUCK and one line fault is counted. In IDLE, DONE and
ABORTED nothing else changes. In RUNNING, WAITING and PAUSED the LINE cause is added and a LINE_STUCK finding of the
epoch number is presented. An epoch in ANNOUNCE, a phase, the gap, COLLECTING or GRACE enters VOID, strobes low,
with P6 ms of settle; the void total rises and the consecutive-void count does not; planner, results and nodes are
untouched. A plan build in flight is marked to be voided; WAITING becomes PAUSED. In STUCK an edge
of SL (STUCK_WAIT_RESTART) or a pulse that has ended (NOISE_EVENT, BIT_PULSE, START_MARK, BREAK_END) starts the 1 ms
wait again, a level that lasts (BREAK, STUCK) stops it, and none counts anything; an idle step brings STUCK_CLEAR
exactly where the wait runs out, and never while it is stopped (the idle microsecond is log entry 1); STUCK_CLEAR ends
the episode (R10, R11, R65, R67, R93, R116, R142, R155; which rows tell these edges is log entry 23). -/
def Obligations.StuckEpisode : Prop :=
  ∀ s : State, s.held = none →
    let port : Port := { s.port with
      line := .stuck, lineFaults := satInc 65535 s.port.lineFaults, stuckWait := none }
    let openEpoch := s.epoch.state ∈ [EpochState.announce, .phase1, .gap, .phase2, .collecting, .grace]
    (s.port.line = .broken →
        (s.campaign.state.live = false → exec .stuck s = .next { s with port := port })
        ∧ (s.campaign.state.live = true → ∃ t, exec .stuck s = .next t
          ∧ t.port = port ∧ t.campaign.causes = { s.campaign.causes with line := true }
          ∧ t.findings = s.findings.after s.map (lineStuckPresentation s.epoch.number)
          ∧ t = { s with
              port := t.port, epoch := t.epoch, rail := t.rail, findings := t.findings, campaign := t.campaign
              planner := t.planner }
          ∧ (s.campaign.state = .running →
              t.campaign = { s.campaign with
                causes := t.campaign.causes, lamps := t.campaign.lamps, blinkTimer := none }
              ∧ t.planner = s.planner
              ∧ (openEpoch →
                t.epoch = { s.epoch with
                  qstb := false, dstb := false, state := .void, timer := some (s.p 5 * 1000) }
                ∧ t.rail = { s.rail with voidTotal := satInc 65535 s.rail.voidTotal })
              ∧ (s.epoch.state = .planning → t.epoch = { s.epoch with buildVoid := true } ∧ t.rail = s.rail)
              ∧ (s.epoch.state = .void → t.epoch = s.epoch ∧ t.rail = s.rail))
          ∧ (s.campaign.state = .waiting ∨ s.campaign.state = .paused →
              t.campaign.state = .paused ∧ t.planner.queue = s.planner.queue ∧ t.rail = s.rail
              ∧ t.epoch.number = s.epoch.number)))
    ∧ (s.port.line = .stuck →
      let again := { s with port := { s.port with stuckWait := some 1000 } }
      let stopped := { s with port := { s.port with stuckWait := none } }
      exec .stuckWaitRestart s = .next again ∧ exec .breakEnd s = .next again
      ∧ (s.port.levelFromReset = false → exec .noiseEvent s = .next again ∧ exec .startMark s = .next again
          ∧ ∀ width spacing, 1 ≤ width → exec (.bitPulse width spacing) s = .next again)
      ∧ exec .lineBreak s = .next stopped ∧ exec .stuck s = .next stopped
      ∧ (s.pending = [] → ∃ t, step s = .next t
          ∧ t.port = { s.port with stuckWait := s.port.stuckWait.map (· - 1) }
          ∧ (Instr.stuckClear ∈ t.pending ↔ s.port.stuckWait = some 1))
      ∧ exec .stuckClear s = .next { s with port := { s.port with line := .idle, stuckWait := none } })

/-- END_OF_DATA in RECEIVING for a frame that fails the structure tests is one framing error and the line is IDLE;
for a well-structured frame whose last byte is not the check byte of the bytes before it, it is one check error and
no framing error (R4, R6). END_OF_DATA with a good request frame in the receive buffer takes that request: it does
what the request's own row does, and a good frame of unknown kind what UNKNOWN_KIND does (R4, R6, R12; that a row
stands for its whole frame is log entry 5). -/
def Obligations.EndOfDataTests : Prop :=
  (∀ s : State, s.held = none → s.port.line = .receiving →
      let bytes := s.port.rxBytes
      let structured := s.port.rxBits = [] ∧ 4 ≤ bytes.length ∧ (bytes.getD 2 0).toNat ≤ 30
        ∧ bytes.length = (bytes.getD 2 0).toNat + 4
      (¬structured →
        exec .endOfData s = .next { s with port := { s.port with
          line := .idle, rxBytes := [], rxBits := [], framingErrors := satInc 65535 s.port.framingErrors } })
      ∧ (structured → bytes.getLast? ≠ some (crc8 bytes.dropLast) →
        exec .endOfData s = .next { s with port := { s.port with
          line := .idle, rxBytes := [], rxBits := [], checkErrors := satInc 65535 s.port.checkErrors } }))
  ∧ (∀ (k : RequestKind) (header : Byte) (payload : List Byte) (s : State), s.held = none → s.port.line = .receiving →
      payload.length ≤ 30 → s.port.rxBits = [] → s.port.rxBytes = requestFrame header k.byte payload →
      exec .endOfData s = exec (requestRow k header payload) s)
  ∧ (∀ (header kind : Byte) (payload : List Byte) (s : State), s.held = none → s.port.line = .receiving →
      payload.length ≤ 30 → s.port.rxBits = [] → s.port.rxBytes = requestFrame header kind payload →
      RequestKind.ofByte kind = none → exec .endOfData s = exec (.unknownKind header kind payload) s)

/-- REPLY_START on a recessive line drives the start mark of 40 us, 10 us recessive, and then every bit of the reply
buffer in a slot of 10 us, most significant bit first, 7 us dominant for a 0 and 3 us for a 1; on a dominant line
the reply is abandoned as a reply collision, and a RESTART that waited for it begins (R1, R15, R16, R18). A reply
being sent: a collision releases SL, counts and makes the line IDLE; its completion on a recessive line waits for
end-of-frame, on a dominant one makes the line IDLE at once; with a RESTART accepted, either begins the RESTART
reset. With the reply complete, END_OF_FRAME or a dominant edge makes the line IDLE (R7, R15, R16, R18). -/
def Obligations.ReplyWindow : Prop :=
  (∀ s : State, s.held = none → s.port.line = .replying → s.port.replyPhase = .due →
      exec (.replyStart false) s = .next { s with port := { s.port with
        replyPhase := .sending
        tx := ⟨40, 10⟩ :: (s.port.reply.flatMap bitsOf).map (fun b => if b then ⟨3, 7⟩ else ⟨7, 3⟩) } }
      ∧ (s.campaign.restartDue = false →
        exec (.replyStart true) s = .next { s with port := { s.port with
          line := .idle, replyPhase := .none, tx := [], collisions := satInc 65535 s.port.collisions } })
      ∧ (s.campaign.restartDue = true → exec (.replyStart true) s = .next (restartReset true s)))
  ∧ (∀ s : State, s.held = none → s.port.line = .replying →
      let ended := { s with port := { s.port with line := .idle, replyPhase := .none, tx := [] } }
      (s.port.replyPhase = .sending → s.campaign.restartDue = false →
        exec .replyCollision s = .next { s with port := { s.port with
          line := .idle, replyPhase := .none, tx := [], collisions := satInc 65535 s.port.collisions } }
        ∧ exec (.replyComplete false) s = .next { s with port := { s.port with replyPhase := .complete, tx := [] } }
        ∧ exec (.replyComplete true) s = .next ended)
      ∧ (s.port.replyPhase = .sending → s.campaign.restartDue = true →
        exec .replyCollision s = .next (restartReset true s)
        ∧ ∀ dominant, exec (.replyComplete dominant) s = .next (restartReset dominant s))
      ∧ (s.port.replyPhase = .complete →
        exec .endOfFrame s = .next ended ∧ exec .dominantEdgeAfterReply s = .next ended))

/-! ## Taking a request -/

/-- The acceptance tests, in their order, for every request row from an address that has a node record: a sender not
enrolled gets NOT_ENROLLED for every kind but ENROL, STATUS and IDENT; a kind the role does not permit gets ROLE; a
FETCH or REPORT from a LAPSED probe gets STATE; MAP_BURN, CERT_COMMIT or RESTART that did not consume an arm for
itself gets UNARMED. The request then has no effect but the spent arm and the silence timer (R26, R30, R31, R33). A
frame whose kind byte names no request kind is answered UNKNOWN_KIND, from any address; a request from an address in
20 to 30 is answered RANGE for ENROL and NOT_ENROLLED for every other kind (R12). -/
def Obligations.AcceptanceInOrder : Prop :=
  (∀ (k : RequestKind) (who : Sender) (header : Byte) (payload : List Byte) (s : State),
      s.held = none → payload.length ≤ 30 → senderOf header = some who →
      let enrolled := match who with
        | .probe n => (s.nodes.probes.at n).state ≠ .absent
        | .station => s.nodes.station.state = .active
      let isOpen := k ∈ [RequestKind.enrol, .status, .ident]
      let permitted := match who with
        | .probe _ => k ∈ [RequestKind.enrol, .status, .ident, .leave, .fetch, .report]
        | .station => k ∉ [RequestKind.fetch, .report]
      let armed := addressOf header = 31 ∧ (s.port.arm.map ArmKind.byte) = some k.byte
      (¬isOpen → ¬enrolled → exec (requestRow k header payload) s = .next (refusedWith k header payload .notEnrolled s))
      ∧ (isOpen ∨ enrolled → ¬permitted →
          exec (requestRow k header payload) s = .next (refusedWith k header payload .role s))
      ∧ (∀ n, who = .probe n → k ∈ [RequestKind.fetch, .report] → (s.nodes.probes.at n).state = .lapsed →
          exec (requestRow k header payload) s = .next (refusedWith k header payload .state s))
      ∧ (enrolled → permitted → k ∈ [RequestKind.mapBurn, .certCommit, .restart] → ¬armed →
          exec (requestRow k header payload) s = .next (refusedWith k header payload .unarmed s)))
  ∧ ((∀ (header kind : Byte) (payload : List Byte) (s : State), s.held = none → payload.length ≤ 30 →
      RequestKind.ofByte kind = none →
      exec (.unknownKind header kind payload) s = .next (replied header (.refusal .unknownKind) (heard header kind payload s)))
    ∧ ∀ (k : RequestKind) (header : Byte) (payload : List Byte) (s : State), s.held = none → payload.length ≤ 30 →
      20 ≤ addressOf header → addressOf header ≤ 30 →
      exec (requestRow k header payload) s
        = .next (refusedWith k header payload (if k = .enrol then .range else .notEnrolled) s))

/-- ARM from the ACTIVE station sets the arm record live for the kind it names, and answers OK; a kind value other
than those of MAP_BURN, CERT_COMMIT and RESTART draws RANGE and a payload of another length MALFORMED, and the arm
record is then not live (R32). -/
def Obligations.ArmSetsRecord : Prop :=
  ∀ (header : Byte) (s : State), stationMay header s →
    (∀ a : ArmKind, exec (.arm header [a.byte]) s
      = .next (replied header ⟨.ok, []⟩ ((heard header 0x05#8 [a.byte] s).onPort fun p => { p with arm := some a })))
    ∧ (∀ b : Byte, b ≠ 0x23#8 → b ≠ 0x60#8 → b ≠ 0x70#8 →
        exec (.arm header [b]) s = .next (refusedWith .arm header [b] .range s))
    ∧ (∀ payload : List Byte, payload.length ≤ 30 → payload.length ≠ 1 →
        exec (.arm header payload) s = .next (refusedWith .arm header payload .malformed s))

/-- STATUS from any address that has a node record, enrolled or not: the page as it stands at the instant of taking,
MALFORMED for a payload of another length, RANGE for a page above 2 (R160). IDENT from any address that has a node
record: vendor code 0A6Dh, part code 2410h, revision 1, and the numbers of map generations and certificates begun
and done; a payload that is not empty draws MALFORMED (R34). -/
def Obligations.OpenReadsAnswer : Prop :=
  (∀ (header : Byte) (who : Sender) (s : State), s.held = none → senderOf header = some who →
      let now := fun page => heard header 0x03#8 [page] s
      exec (.status header [0#8]) s = .next (replied header ⟨.ok, statusPage0 (now 0#8)⟩ (now 0#8))
      ∧ exec (.status header [1#8]) s = .next (replied header ⟨.ok, statusPage1 (now 1#8)⟩ (now 1#8))
      ∧ exec (.status header [2#8]) s = .next (replied header ⟨.ok, statusPage2 (now 2#8)⟩ (now 2#8))
      ∧ (∀ page : Byte, 2 < page.toNat → exec (.status header [page]) s = .next (refusedWith .status header [page] .range s))
      ∧ (∀ payload : List Byte, payload.length ≤ 30 → payload.length ≠ 1 →
          exec (.status header payload) s = .next (refusedWith .status header payload .malformed s)))
  ∧ (∀ (header : Byte) (who : Sender) (s : State), s.held = none → senderOf header = some who →
      exec (.ident header []) s
        = .next (replied header
            ⟨.ok, [0x0A#8, 0x6D#8, 0x24#8, 0x10#8, 1#8,
              byteOf (s.nv.gens.toList.countP (·.begun)), byteOf (s.nv.gens.toList.countP (·.done)),
              byteOf (s.nv.certs.toList.countP (·.begun)), byteOf (s.nv.certs.toList.countP (·.done))]⟩
            (heard header 0x04#8 [] s))
      ∧ ∀ payload : List Byte, payload.length ≤ 30 → payload ≠ [] →
          exec (.ident header payload) s = .next (refusedWith .ident header payload .malformed s))

/-- PARAM_GET from the ACTIVE station: the number and the stored value, with no effect; MALFORMED by length, then
RANGE for a number outside 1 to 16 and 32 to 47, then STATE in RUNNING and WAITING, and for P7 in PAUSED (R75). -/
def Obligations.ParamGetAnswers : Prop :=
  ∀ (header : Byte) (s : State), stationMay header s →
    (∀ payload : List Byte, payload.length ≤ 30 → payload.length ≠ 1 →
      exec (.paramGet header payload) s = .next (refusedWith .paramGet header payload .malformed s))
    ∧ ∀ n : Byte,
      (paramOf n.toNat = none ↔ ¬(1 ≤ n.toNat ∧ n.toNat ≤ 16) ∧ ¬(32 ≤ n.toNat ∧ n.toNat ≤ 47))
      ∧ (paramOf n.toNat = none → exec (.paramGet header [n]) s = .next (refusedWith .paramGet header [n] .range s))
      ∧ ∀ r, paramOf n.toNat = some r →
        let barred := s.campaign.state = .running ∨ s.campaign.state = .waiting
          ∨ (s.campaign.state = .paused ∧ n = 7#8)
        (barred → exec (.paramGet header [n]) s = .next (refusedWith .paramGet header [n] .state s))
        ∧ (¬barred → exec (.paramGet header [n]) s
            = .next (replied header ⟨.ok, n :: be16 (s.campaign.params.get r)⟩ (heard header 0x11#8 [n] s)))

/-- PARAM_SET from the ACTIVE station, tested in order: MALFORMED by length, RANGE for a number outside 1 to 16 and
32 to 47, STATE in RUNNING and WAITING and for P7 in PAUSED. Otherwise a value of P1 to P16 is stored brought into
its range, a T_pass brought into 1 to 4095, a T_open or T_iso brought into 1 to 4095 and then to at most the stored
T_pass of its class, an E_max to at most 254; the reply carries the value as stored, and no other parameter changes
(R72, R73, R74). -/
def Obligations.ParamSetStores : Prop :=
  ∀ (header : Byte) (s : State), stationMay header s →
    (∀ payload : List Byte, payload.length ≤ 30 → payload.length ≠ 3 →
      exec (.paramSet header payload) s = .next (refusedWith .paramSet header payload .malformed s))
    ∧ ∀ n hi lo : Byte,
      let v := hi.toNat * 256 + lo.toNat
      let ps := s.campaign.params
      let numbered := (1 ≤ n.toNat ∧ n.toNat ≤ 16) ∨ (32 ≤ n.toNat ∧ n.toNat ≤ 47)
      let barred := s.campaign.state = .running ∨ s.campaign.state = .waiting
        ∨ (s.campaign.state = .paused ∧ n = 7#8)
      let stored := fun (ps' : Params) (w : Nat) => exec (.paramSet header [n, hi, lo]) s
        = .next (replied header ⟨.ok, n :: be16 w⟩
            ((heard header 0x10#8 [n, hi, lo] s).onCampaign fun c => { c with params := ps' }))
      (¬numbered → exec (.paramSet header [n, hi, lo]) s = .next (refusedWith .paramSet header [n, hi, lo] .range s))
      ∧ (numbered → barred →
          exec (.paramSet header [n, hi, lo]) s = .next (refusedWith .paramSet header [n, hi, lo] .state s))
      ∧ (¬barred → ∀ i : Fin 16, n.toNat = i.val + 1 →
          let w := max (generalRange.at i).1 (min (generalRange.at i).2 v)
          stored { ps with general := ps.general.put i w } w)
      ∧ (¬barred → ∀ c : Fin 4,
          let t := ps.thresholds.at c
          let w := max 1 (min 4095 v)
          let put := fun t' => { ps with thresholds := ps.thresholds.put c t' }
          (n.toNat = 32 + 4 * c.val → stored (put { t with tOpen := min w t.tPass }) (min w t.tPass))
          ∧ (n.toNat = 33 + 4 * c.val → stored (put { t with tPass := w }) w)
          ∧ (n.toNat = 34 + 4 * c.val → stored (put { t with tIso := min w t.tPass }) (min w t.tPass))
          ∧ (n.toNat = 35 + 4 * c.val → stored (put { t with eMax := min v 254 }) (min v 254)))

/-! ## Nodes -/

/-- PRESENCE_SEATED makes an EMPTY slot SEATED and changes no node record; PRESENCE_LOSS makes a SEATED slot EMPTY
and the record ABSENT, its misses, channels, flag and cursor kept (R20, R21; that the row asserts the pin's level is
log entry 16). PRESENCE_DEPARTURE: a level that differs from the filtered state starts 10 ms; one that matches it
abandons the running time (R20). -/
def Obligations.PresenceFiltersSettle : Prop :=
  (∀ (n : Slot) (s : State), s.held = none →
      ((s.nodes.presence.at n).seated = false →
        exec (.presenceSeated n) s = .next { s with nodes := { s.nodes with
          presence := s.nodes.presence.put n ⟨true, true, none⟩ } })
      ∧ ((s.nodes.presence.at n).seated = true →
        exec (.presenceLoss n) s = .next { s with nodes := { s.nodes with
          presence := s.nodes.presence.put n ⟨false, false, none⟩
          probes := s.nodes.probes.put n { s.nodes.probes.at n with state := .absent } } }))
  ∧ (∀ (n : Slot) (low : Bool) (s : State), s.held = none → (s.nodes.presence.at n).low ≠ low →
      exec (.presenceDeparture n low) s = .next { s with nodes := { s.nodes with
        presence := s.nodes.presence.put n
          ⟨low, (s.nodes.presence.at n).seated,
            if low = (s.nodes.presence.at n).seated then none else some 10000⟩ } })

/-- ENROL from a probe address, tested in order: MALFORMED by length, ROLE, NOT_SEATED, CAPABILITY; accepted, the record becomes ACTIVE
with miss count 0 and the channel count asked for, at most 24, flag and cursor kept; the reply tells the state and
miss count held before and the count stored. In WAITING a transition into ACTIVE also makes the campaign RUNNING,
its wait timer stopped, and starts a plan build (R22, R23, R28, R68). -/
def Obligations.EnrolProbe : Prop :=
  (∀ (n : Slot) (header : Byte) (payload : List Byte) (s : State), s.held = none → addressOf header = n.val →
    payload.length ≤ 30 → payload.length ≠ 5 →
    exec (.enrol header payload) s = .next (refusedWith .enrol header payload .malformed s))
  ∧ ∀ (n : Slot) (header role ch tk id1 id0 : Byte) (s : State), s.held = none → addressOf header = n.val →
    let payload := [role, ch, tk, id1, id0]
    let old := s.nodes.probes.at n
    let new := { old with state := NodeState.active, misses := 0, channels := some (min ch.toNat 24) }
    let s' := (heard header 0x01#8 payload s).onNodes fun nt => { nt with probes := nt.probes.put n new }
    let answer : Answer := ⟨.ok, [byteOf old.state.code, byteOf old.misses, byteOf (min ch.toNat 24)]⟩
    (role ≠ 1#8 → exec (.enrol header payload) s = .next (refusedWith .enrol header payload .role s))
    ∧ (role = 1#8 → (s.nodes.presence.at n).seated = false →
        exec (.enrol header payload) s = .next (refusedWith .enrol header payload .notSeated s))
    ∧ (role = 1#8 → (s.nodes.presence.at n).seated = true → ch.toNat < 3 →
        exec (.enrol header payload) s = .next (refusedWith .enrol header payload .capability s))
    ∧ (role = 1#8 → (s.nodes.presence.at n).seated = true → 3 ≤ ch.toNat →
        (s.campaign.state ≠ .waiting ∨ old.state = .active →
          exec (.enrol header payload) s = .next (replied header answer s'))
        ∧ (s.campaign.state = .waiting → old.state ≠ .active →
          exec (.enrol header payload) s = .next (replied header answer
            (startPlanBuild (showLamps (s'.onCampaign fun c => { c with state := .running, waitTimer := none }))))))

/-- ENROL at address 31: another length draws MALFORMED, another role than STATION ROLE, identity 0 RANGE. An ABSENT record, the holder again,
or a takeover after 10 s of silence are admitted: the record is ACTIVE with the identity as holder and the silence
timer 0; any other sender draws STATION_HELD, and the timer runs on. A record that was ABSENT, in WAITING, also
makes the campaign RUNNING with a plan build started; a takeover is a station change: in RUNNING it adds STATION and
sets pause-pending, in PAUSED it adds STATION, in WAITING it adds STATION and the campaign enters PAUSED (R22, R24,
R25, R26, R35, R66, R68). -/
def Obligations.EnrolStation : Prop :=
  (∀ (header : Byte) (payload : List Byte) (s : State), s.held = none → addressOf header = 31 →
    payload.length ≤ 30 → payload.length ≠ 5 →
    exec (.enrol header payload) s = .next (refusedWith .enrol header payload .malformed s))
  ∧ ∀ (header role ch tk id1 id0 : Byte) (s : State), s.held = none → addressOf header = 31 →
    let payload := [role, ch, tk, id1, id0]
    let id := id1.toNat * 256 + id0.toNat
    let fresh := s.nodes.station.state = .absent
    let again := s.nodes.holder = some id
    let takeover := tk ≠ 0#8 ∧ 10000000 ≤ s.nodes.silence
    let s' := (heard header 0x01#8 payload s).onNodes fun nt =>
      { nt with station := { nt.station with state := .active }, holder := some id, silence := 0 }
    let changed := s'.onCampaign fun c => { c with causes := { c.causes with station := true } }
    let answered := fun t => exec (.enrol header payload) s = .next (replied header
      ⟨.ok, [byteOf s.nodes.station.state.code, byteOf s.nodes.station.misses, 0#8]⟩ t)
    (role ≠ 2#8 → exec (.enrol header payload) s = .next (refusedWith .enrol header payload .role s))
    ∧ (role = 2#8 → id = 0 → exec (.enrol header payload) s = .next (refusedWith .enrol header payload .range s))
    ∧ (role = 2#8 → id ≠ 0 → ¬fresh → ¬again → ¬takeover →
        exec (.enrol header payload) s = .next (refusedWith .enrol header payload .stationHeld s))
    ∧ (role = 2#8 → id ≠ 0 → fresh →
        (s.campaign.state ≠ .waiting → answered s')
        ∧ (s.campaign.state = .waiting → answered (startPlanBuild (showLamps
            (s'.onCampaign fun c => { c with state := .running, waitTimer := none })))))
    ∧ (role = 2#8 → id ≠ 0 → ¬fresh → again → answered s')
    ∧ (role = 2#8 → id ≠ 0 → ¬fresh → ¬again → takeover →
        (s.campaign.state.live = false → answered s')
        ∧ (s.campaign.state = .running → answered (changed.onCampaign fun c => { c with pausePending := true }))
        ∧ (s.campaign.state = .paused → answered changed)
        ∧ (s.campaign.state = .waiting → answered (enterPaused changed)))

/-- LEAVE from an enrolled probe makes its record ABSENT and keeps the rest of it. LEAVE from the ACTIVE station
makes its record ABSENT, the holder absent and the silence timer 0, and is a station change: in RUNNING it adds
STATION and sets pause-pending, in PAUSED it adds STATION, in WAITING it adds STATION and the campaign enters
PAUSED, and in IDLE, DONE and ABORTED it does nothing more. A payload draws MALFORMED (R27, R35, R66). -/
def Obligations.LeaveMakesAbsent : Prop :=
  (∀ (n : Slot) (header : Byte) (s : State), s.held = none → addressOf header = n.val →
    (s.nodes.probes.at n).state ≠ .absent →
    exec (.leave header []) s = .next (replied header ⟨.ok, []⟩
      ((heard header 0x02#8 [] s).onNodes fun nt =>
        { nt with probes := nt.probes.put n { nt.probes.at n with state := .absent } }))
    ∧ ∀ payload : List Byte, payload.length ≤ 30 → payload ≠ [] →
        exec (.leave header payload) s = .next (refusedWith .leave header payload .malformed s))
  ∧ ∀ (header : Byte) (s : State), stationMay header s →
    let gone := (heard header 0x02#8 [] s).onNodes fun nt =>
      { nt with station := { nt.station with state := .absent }, holder := none, silence := 0 }
    let changed := gone.onCampaign fun c => { c with causes := { c.causes with station := true } }
    let answered := fun t => exec (.leave header []) s = .next (replied header ⟨.ok, []⟩ t)
    (s.campaign.state.live = false → answered gone)
    ∧ (s.campaign.state = .running → answered (changed.onCampaign fun c => { c with pausePending := true }))
    ∧ (s.campaign.state = .paused → answered changed)
    ∧ (s.campaign.state = .waiting → answered (enterPaused changed))
    ∧ ∀ payload : List Byte, payload.length ≤ 30 → payload ≠ [] →
        exec (.leave header payload) s = .next (refusedWith .leave header payload .malformed s)

/-! ## The link map -/

/-- The listen set of receiver lane r holds exactly the lanes r - 1, r and r + 1 that lie within 0 to 47, in ascending
order: 3 lanes for r in 1 to 46, 2 lanes for 0 and 47 (R39). -/
def Obligations.ListenSets : Prop :=
  ∀ r : Lane, (∀ l : Lane, l ∈ listenSet r ↔ l.val + 1 = r.val ∨ l = r ∨ l.val = r.val + 1)
    ∧ (listenSet r).Pairwise (· < ·)
    ∧ (listenSet r).length = if r.val = 0 ∨ r.val = 47 then 2 else 3

/-- MAP_WRITE from the ACTIVE station, tested in order: MALFORMED unless its length is that of an index and 1 to 5
whole records, RANGE for a field or an index out of range, STATE in a live campaign, BUSY while the map is CHECKING
or a write is in flight. Accepted, the records are stored at consecutive indices, the count of links in use is
brought up to date, the status is EDITED, the origin none, every occupancy entry FREE, the error record kept; in
DONE or ABORTED the campaign also becomes IDLE with results, findings, result and certified flag cleared and the
lamps off. MAP_VALIDATE: STATE in a live campaign, BUSY as above; otherwise the status becomes CHECKING, the error
record none and every entry FREE, answered ACCEPTED (R41, R42, R43, R44, R45, R48, R71, R148). -/
def Obligations.MapWriteAndValidate : Prop :=
  (∀ (header : Byte) (s : State), stationMay header s →
    (∀ payload : List Byte, payload.length ≤ 30 → payload.length ∉ [7, 12, 17, 22, 27] →
      exec (.mapWrite header payload) s = .next (refusedWith .mapWrite header payload .malformed s))
    ∧ ∀ (hi lo : Byte) (bytes : List Byte) (count : Nat),
      1 ≤ count → count ≤ 5 → bytes.length = 5 * count →
      let first := hi.toNat * 256 + lo.toNat
      let payload := hi :: lo :: bytes
      let refused := fun code => exec (.mapWrite header payload) s = .next (refusedWith .mapWrite header payload code s)
      let busy := s.map.status = .checking ∨ s.nv.state ≠ .idle
      (linksOf bytes = none ∨ 480 < first + count → refused .range)
      ∧ ∀ rs, linksOf bytes = some rs → first + count ≤ 480 →
        (s.campaign.state.live = true → refused .state)
        ∧ (s.campaign.state.live = false → busy → refused .busy)
        ∧ (s.campaign.state.live = false → ¬busy → ∀ links : Table LinkRecord 480,
            (∀ k : LinkIx, links.at k = (if first ≤ k.val then rs[k.val - first]? else none).getD (s.map.links.at k)) →
            let map' := { s.map with
              links := links
              inUse := links.toList.countP (·.inUse)
              status := .edited, origin := none, occupancy := Table.fill 960 none }
            let s' := { heard header 0x20#8 payload s with map := map' }
            let answer : Answer := ⟨.ok, byteOf count :: be16 map'.inUse⟩
            (s.campaign.state = .idle → exec (.mapWrite header payload) s = .next (replied header answer s'))
            ∧ (s.campaign.state ≠ .idle → exec (.mapWrite header payload) s = .next (replied header answer
                { s' with
                  results := Results.cleared
                  findings := Findings.cleared
                  timebase := if s.timebase.returnPending
                    then { s.timebase with source := .reference, returnPending := false } else s.timebase
                  campaign := { s.campaign with
                    state := .idle, result := .none, certified := false, lamps := ⟨false, false, false⟩
                    blinkTimer := none } }))))
  ∧ (∀ (header : Byte) (s : State), stationMay header s →
      (s.campaign.state.live = true →
        exec (.mapValidate header []) s = .next (refusedWith .mapValidate header [] .state s))
      ∧ (s.campaign.state.live = false → s.map.status = .checking ∨ s.nv.state ≠ .idle →
        exec (.mapValidate header []) s = .next (refusedWith .mapValidate header [] .busy s))
      ∧ (s.campaign.state.live = false → s.map.status ≠ .checking → s.nv.state = .idle →
        exec (.mapValidate header []) s = .next (replied header ⟨.accepted, []⟩
          { heard header 0x22#8 [] s with map := { s.map with
            status := .checking, error := .none, occupancy := Table.fill 960 none } })))

/-- SCAN_COMPLETE grants VALID exactly to a map with a link in use in which every lane end belongs to at most one
link and the two ends of every link lie in different slots; its occupancy table then gives each lane end the link
that names it. Any other map becomes FAULTY with every entry FREE and an error that is true of it: SAME_SLOT names a
link whose ends lie in one slot, DOUBLE_END a link, its end and an earlier link that also names that lane end, EMPTY
a map with no link in use. Records, origin and count are kept, and no other block changes (R47, R49, R50, R51, R53).
-/
def Obligations.ScanGrantsValid : Prop :=
  ∀ s : State, s.held = none → s.map.status = .checking → s.map.error = .none →
    s.map.inUse = s.map.links.toList.countP (·.inUse) →
    ∃ t, exec .scanComplete s = .next t
      ∧ t = { s with map := { s.map with
          status := t.map.status, error := t.map.error, occupancy := t.map.occupancy } }
      ∧ (1 ≤ s.map.inUse → MapLaw s.map → t.map.status = .valid ∧ t.map.error = .none
          ∧ ∀ (e : LaneEnd) (k : LinkIx), t.map.occupancy.at e.index = some k ↔ names s.map k e)
      ∧ (¬(1 ≤ s.map.inUse ∧ MapLaw s.map) → t.map.status = .faulty ∧ t.map.error ≠ .none
          ∧ t.map.occupancy = Table.fill 960 none)
      ∧ (∀ k, t.map.error = .sameSlot k →
          (s.map.links.at k).inUse = true ∧ (s.map.links.at k).endA.slot = (s.map.links.at k).endB.slot)
      ∧ (∀ k w j, t.map.error = .doubleEnd k w j →
          j < k ∧ (s.map.links.at k).inUse = true
          ∧ names s.map j (if w = .a then (s.map.links.at k).endA else (s.map.links.at k).endB))
      ∧ (t.map.error = .empty → s.map.inUse = 0)

/-! ## The campaign -/

/-- A plan build start: the epoch number advances by 1, 65535 to 1; a pending return is applied; the snapshot holds
the ACTIVE probes, ascending, with their channel counts; references and class thresholds are copied; trial table,
duty and entry lists are emptied and every record's flag and cursor cleared; released marks and received entries go,
and the epoch state is PLANNING. The pending queue is unchanged (R85, R86, R87, R97, R106, R122, R148). -/
def Obligations.PlanBuildStart : Prop :=
  ∀ s : State,
    let t := startPlanBuild s
    t = { s with epoch := t.epoch, timebase := t.timebase, planner := t.planner, grading := t.grading, nodes := t.nodes }
    ∧ t.epoch = { s.epoch with
        before := s.epoch.number
        number := if s.epoch.number = 65535 then 1 else s.epoch.number + 1
        state := .planning, timer := none, buildVoid := false
        released := Table.fill 20 false, received := Table.fill 20 [] }
    ∧ t.timebase = (if s.timebase.returnPending
        then { s.timebase with source := .reference, returnPending := false } else s.timebase)
    ∧ t.planner.queue = s.planner.queue ∧ t.planner.trials = []
    ∧ (∀ n, t.planner.duties.at n = []) ∧ (∀ n, t.planner.entries.at n = [])
    ∧ (t.planner.snapshot.map Prod.fst).Pairwise (· < ·)
    ∧ (∀ n c, (n, c) ∈ t.planner.snapshot ↔
        (s.nodes.probes.at n).state = .active ∧ c = (s.nodes.probes.at n).channels.getD 0)
    ∧ t.grading = { s.grading with refSnap := s.grading.refs, thrSnap := s.campaign.params.thresholds }
    ∧ t.nodes = { s.nodes with probes := t.nodes.probes, station := { s.nodes.station with fetchComplete := false, cursor := 0 } }
    ∧ ∀ n, t.nodes.probes.at n = { s.nodes.probes.at n with fetchComplete := false, cursor := 0 }

/-- CAMPAIGN_START from the ACTIVE station in IDLE, DONE or ABORTED. Unless the map is VALID, the NV state IDLE, the
rail OK, the line not STUCK and a probe ACTIVE, it draws STATE with the set of what stands in the way. Otherwise
results, findings, supervision counts, references and campaign record as the rule's nine steps say, the queue filled
with the leg list, the campaign RUNNING with LRUN on, and a plan build started. The reply gives the new campaign
number and the number of legs (R58, R59, R71). -/
def Obligations.StartOpensCampaign : Prop :=
  ∀ (header : Byte) (s : State), stationMay header s → s.campaign.state.live = false →
    let h := heard header 0x30#8 [] s
    let number := if s.campaign.number < 255 then s.campaign.number + 1 else s.campaign.number
    let someActive := ∃ n : Slot, (s.nodes.probes.at n).state = .active
    let clear := s.map.status = .valid ∧ s.nv.state = .idle ∧ s.rail.state = .ok ∧ s.port.line ≠ .stuck ∧ someActive
    (¬clear → exec (.campaignStart header []) s = .next (replied header ⟨.state, [StartCauses.byte
      ⟨decide (s.map.status ≠ .valid), decide (s.nv.state ≠ .idle), decide (s.rail.state = .sag),
        decide (s.port.line = .stuck), decide (¬someActive), false⟩]⟩ h))
    ∧ (clear → exec (.campaignStart header []) s = .next (replied header
      ⟨.ok, byteOf number :: be16 s.map.legList.length⟩
      (startPlanBuild { h with
        results := Results.cleared
        findings := Findings.cleared
        rail := { s.rail with voidTotal := 0, consecutive := 0, sagCount := 0 }
        timebase := { s.timebase with lossCount := 0 }
        port := { h.port with lineFaults := 0 }
        grading := { s.grading with refs := Table.fill 20 (s.p 11 * 256) }
        planner := { s.planner with queue := s.map.legList }
        epoch := { s.epoch with number := 0, lastEnded := none }
        campaign := { s.campaign with
          state := .running, causes := ⟨false, false, false⟩, pausePending := false, number := number
          retestLimit := s.p 6, origin := s.map.origin, result := .none, certified := false
          lamps := ⟨true, false, false⟩, blinkTimer := none } })))

/-- A payload on CAMPAIGN_PAUSE, RESUME, ABORT, START or MAP_VALIDATE draws MALFORMED; in a live campaign START
draws STATE naming RUNNING. CAMPAIGN_PAUSE from the ACTIVE station: in RUNNING it sets pause-pending, in PAUSED it
has no effect, both answered OK; in WAITING the wait timer stops and the campaign is PAUSED at once, with LRUN on
for a new period; in IDLE, DONE and ABORTED it draws STATE. LAMP_BLINK in PAUSED turns LRUN over and starts the next
500 ms (R48, R58, R61, R62, R63, R64, R71). -/
def Obligations.PauseAndBlink : Prop :=
  (∀ (header : Byte) (s : State), stationMay header s →
      (∀ k ∈ [RequestKind.campaignPause, .campaignResume, .campaignAbort, .campaignStart, .mapValidate],
        ∀ payload : List Byte, payload.length ≤ 30 → payload ≠ [] →
          exec (requestRow k header payload) s = .next (refusedWith k header payload .malformed s))
      ∧ (s.campaign.state.live = true → exec (.campaignStart header []) s
          = .next (replied header ⟨.state, [32#8]⟩ (heard header 0x30#8 [] s)))
      ∧
      let h := heard header 0x31#8 [] s
      (s.campaign.state = .running → exec (.campaignPause header []) s
        = .next (replied header ⟨.ok, []⟩ (h.onCampaign fun c => { c with pausePending := true })))
      ∧ (s.campaign.state = .waiting → ∃ t, exec (.campaignPause header []) s = .next t
          ∧ t.port.reply = (Answer.mk .ok []).bytes
          ∧ t.campaign = { s.campaign with
              state := .paused, pausePending := false, waitTimer := none
              lamps := ⟨true, false, badCondition s⟩, blinkTimer := some 500000 }
            ∧ t.epoch = { s.epoch with
              state := .none, timer := none, qstb := false, dstb := false, received := Table.fill 20 [] }
          ∧ t.planner = { Planner.afterReset with queue := s.planner.queue }
          ∧ t = { s with
              port := t.port, nodes := { s.nodes with silence := 0 }
              campaign := t.campaign, epoch := t.epoch, planner := t.planner })
      ∧ (s.campaign.state = .paused → exec (.campaignPause header []) s = .next (replied header ⟨.ok, []⟩ h))
      ∧ (s.campaign.state = .idle ∨ s.campaign.state = .done ∨ s.campaign.state = .aborted →
          exec (.campaignPause header []) s = .next (refusedWith .campaignPause header [] .state s)))
  ∧ (∀ s : State, s.held = none → s.campaign.state = .paused →
      exec .lampBlink s = .next { s with campaign := { s.campaign with
        lamps := { s.campaign.lamps with run := !s.campaign.lamps.run }, blinkTimer := some 500000 } })

/-- CAMPAIGN_RESUME from the ACTIVE station in PAUSED with the rail OK and the line not STUCK: the causes and
pause-pending are cleared, the campaign is RUNNING and a plan build starts. In PAUSED with either cause it draws
STATE naming RAIL, LINE or both; in RUNNING or WAITING STATE naming RUNNING; elsewhere STATE with an empty set.
CAMPAIGN_ABORT in RUNNING, WAITING or PAUSED: strobes low, epoch NONE, queue and trial table emptied, wait timer,
causes and pause-pending cleared, the campaign ABORTED with LBAD alone on, the epoch number and last-ended record
kept, results, findings, references and map kept; elsewhere it draws STATE (R63, R64, R71, R97, R148). -/
def Obligations.ResumeAndAbort : Prop :=
  ∀ (header : Byte) (s : State), stationMay header s →
    let h := heard header 0x32#8 [] s
    let refused := fun set : StartCauses =>
      exec (.campaignResume header []) s = .next (replied header ⟨.state, [set.byte]⟩ h)
    (s.campaign.state = .paused → s.rail.state = .ok → s.port.line ≠ .stuck →
      exec (.campaignResume header []) s = .next (replied header ⟨.ok, []⟩
        (startPlanBuild (h.onCampaign fun c => { c with
          state := .running, causes := ⟨false, false, false⟩, pausePending := false
          lamps := ⟨true, false, badCondition s⟩, blinkTimer := none }))))
    ∧ (s.campaign.state = .paused → s.rail.state = .sag ∨ s.port.line = .stuck →
        refused ⟨false, false, s.rail.state == .sag, s.port.line == .stuck, false, false⟩)
    ∧ (s.campaign.state = .running ∨ s.campaign.state = .waiting → refused ⟨false, false, false, false, false, true⟩)
    ∧ (s.campaign.state = .idle ∨ s.campaign.state = .done ∨ s.campaign.state = .aborted →
        refused ⟨false, false, false, false, false, false⟩)
    ∧ (s.campaign.state.live = true → ∃ t, exec (.campaignAbort header []) s = .next t
      ∧ t.port.reply = (Answer.mk .ok []).bytes
      ∧ t.campaign = { s.campaign with
          state := .aborted, waitTimer := none, causes := ⟨false, false, false⟩, pausePending := false
          lamps := ⟨false, false, true⟩, blinkTimer := none }
      ∧ t.epoch = { s.epoch with
          state := .none, timer := none, qstb := false, dstb := false, received := Table.fill 20 [] }
      ∧ t.planner = Planner.afterReset
      ∧ t.timebase = (if s.timebase.returnPending
          then { s.timebase with source := .reference, returnPending := false } else s.timebase)
      ∧ t = { s with
          port := t.port, nodes := { s.nodes with silence := 0 }, timebase := t.timebase
          campaign := t.campaign, epoch := t.epoch, planner := t.planner })
    ∧ (s.campaign.state.live = false →
        exec (.campaignAbort header []) s = .next (refusedWith .campaignAbort header [] .state s))

/-- WAIT_EXPIRY in WAITING with no leg pending twice: every pending leg is settled UNTESTED with its attempts and
values kept, no other record changes, the UNTESTED count rises by as many, the queue is emptied, and the campaign is
DONE, BAD while the queue held a leg (R69, R70, R151, R152). -/
def Obligations.WaitExpirySettles : Prop :=
  ∀ s : State, s.held = none → s.campaign.state = .waiting → s.planner.queue ≠ [] → s.planner.queue.Nodup →
    settledCount s + s.planner.queue.length = s.map.legList.length →
    ∃ t, exec .waitExpiry s = .next t
      ∧ t.campaign.state = .done ∧ t.campaign.result = .bad ∧ t.campaign.waitTimer = none
      ∧ t.campaign.lamps = ⟨false, false, true⟩ ∧ t.planner.queue = []
      ∧ (∀ l ∈ s.planner.queue, t.results.records.at l = { s.results.records.at l with
          verdict := .untested, settled := true, signalLane := none })
      ∧ (∀ l, l ∉ s.planner.queue → t.results.records.at l = s.results.records.at l)
      ∧ t.results.counts.at 8 = s.results.counts.at 8 + s.planner.queue.length
      ∧ (∀ i : Fin 9, i ≠ 8 → t.results.counts.at i = s.results.counts.at i)
      ∧ t = { s with
          results := t.results, campaign := t.campaign, planner := t.planner, epoch := t.epoch, timebase := t.timebase }

/-! ## Planning -/

/-- PLAN_END that admits a leg, with no pause pending and no line fault in the build: the epoch is in ANNOUNCE for
P1 ms with the backup mark clear. The trials are HELD, numbered from 0, with the ends and listen sets of their legs;
their legs leave the queue and the others keep their order. A leg of the queue is admitted exactly when both its
nodes are in the snapshot and, against the legs admitted before it, fewer than 32 are admitted, its driver node has
fewer than 8 drives, its listen set fits the receiver node's channels, and none meets it in one of the four
conditions (R60, R83, R88, R89, R90, R91, R99). -/
def Obligations.PlanEndAdmits : Prop :=
  ∀ s : State, s.held = none → s.epoch.state = .planning → s.epoch.buildVoid = false →
    s.campaign.pausePending = false → s.planner.queue.Nodup →
    scanQueue s.map s.planner.snapshot s.planner.queue ≠ [] →
    ∃ t, exec .planEnd s = .next t
      ∧ t = { s with epoch := t.epoch, planner := t.planner }
      ∧ t.epoch = { s.epoch with state := .announce, timer := some (s.p 0 * 1000), backup := false }
      ∧ t.planner.snapshot = s.planner.snapshot
      ∧ (t.planner.trials.map (·.leg)).Sublist s.planner.queue
      ∧ t.planner.queue = s.planner.queue.filter (fun l => decide (l ∉ t.planner.trials.map (·.leg)))
      ∧ (∀ (i : Nat) (y : Trial), t.planner.trials[i]? = some y →
          y.number = i ∧ y.state = .held ∧ y.driver = s.map.driverEnd y.leg ∧ y.receiver = s.map.receiverEnd y.leg
            ∧ y.listen = listenSet y.receiver.lane)
      ∧ ∀ before l after, s.planner.queue = before ++ l :: after →
          let ys := t.planner.trials.filter (fun y => decide (y.leg ∈ before))
          let d := s.map.driverEnd l
          let r := s.map.receiverEnd l
          (l ∈ t.planner.trials.map (·.leg) ↔
            (channelsIn s.planner.snapshot d.slot).isSome
              ∧ (∃ c, channelsIn s.planner.snapshot r.slot = some c
                  ∧ ((ys.filter (fun y => decide (y.receiver.slot = r.slot))).map (fun y => y.listen.length)).sum
                      + (listenSet r.lane).length ≤ c)
              ∧ ys.length < 32
              ∧ (ys.filter (fun y => decide (y.driver.slot = d.slot))).length < 8
              ∧ ∀ y ∈ ys,
                  ¬(d.slot = y.driver.slot ∧ d.lane.val ≤ y.driver.lane.val + 1 ∧ y.driver.lane.val ≤ d.lane.val + 1)
                  ∧ ¬(r.slot = y.receiver.slot ∧ r.lane.val ≤ y.receiver.lane.val + 2
                      ∧ y.receiver.lane.val ≤ r.lane.val + 2)
                  ∧ ¬(d.slot = y.receiver.slot ∧ d.lane.val ≤ y.receiver.lane.val + 1
                      ∧ y.receiver.lane.val ≤ d.lane.val + 1)
                  ∧ ¬(r.slot = y.driver.slot ∧ r.lane.val ≤ y.driver.lane.val + 1
                      ∧ y.driver.lane.val ≤ r.lane.val + 1))

/-- The lists of a plan: a node's duties are its drive duties and then its listen duties, each in ascending trial
number, numbered from 0; a drive duty carries the driven lane and the seed (epoch times 1024 plus leg) modulo 65536,
1 in place of 0; the entries are one per drive duty and then one per lane of each listen set, marked EXPECTED or
NEIGHBOUR (R94, R95, R96). -/
def Obligations.PlanEndLists : Prop :=
  ∀ (s : State) (n : Slot), s.held = none → s.epoch.state = .planning → s.epoch.buildVoid = false →
    s.campaign.pausePending = false → scanQueue s.map s.planner.snapshot s.planner.queue ≠ [] →
    ∃ t, exec .planEnd s = .next t ∧
      let drives := t.planner.trials.filter (fun y => decide (y.driver.slot = n))
      let listens := t.planner.trials.filter (fun y => decide (y.receiver.slot = n))
      let seed := fun l : LegIx =>
        let v := (s.epoch.number * 1024 + l.val) % 65536
        if v = 0 then 1 else v
      (t.planner.duties.at n).length = drives.length + listens.length
      ∧ (∀ (i : Nat) (y : Trial), drives[i]? = some y →
          (t.planner.duties.at n)[i]? = some ⟨i, y.number, y.leg, .drive y.driver.lane (seed y.leg)⟩)
      ∧ (∀ (j : Nat) (y : Trial), listens[j]? = some y →
          (t.planner.duties.at n)[drives.length + j]?
            = some ⟨drives.length + j, y.number, y.leg, .listen y.receiver.lane y.listen⟩)
      ∧ t.planner.entries.at n =
          drives.map (fun y => (⟨.drive, y.driver.lane, y.number⟩ : Entry))
            ++ listens.flatMap (fun y => y.listen.map fun l =>
              (⟨if l = y.receiver.lane then .expected else .neighbour, l, y.number⟩ : Entry))

/-- PLAN_END that does not proceed. With a pause pending and legs admitted, every leg stays in the queue, the
admitted ones at its head in admission order, the number is given back and the campaign is PAUSED. With nothing
admitted the number is given back and the queue is left: DONE if it is empty, else PAUSED with a pause pending, else
WAITING for P13 seconds. With a line fault in the build the plan is kept with its number and voided with cause LINE
(R60, R68, R70, R87, R92, R93, R116). -/
def Obligations.PlanEndOtherwise : Prop :=
  ∀ s : State, s.held = none → s.campaign.state = .running → s.epoch.state = .planning →
    let trials := scanQueue s.map s.planner.snapshot s.planner.queue
    let rest := s.planner.queue.filter (fun l => decide (l ∉ trials.map (·.leg)))
    ∃ t, exec .planEnd s = .next t
      ∧ t = { s with
          planner := t.planner, campaign := t.campaign, epoch := t.epoch, timebase := t.timebase, rail := t.rail }
      ∧ (s.epoch.buildVoid = false → t.rail = s.rail)
      ∧ (s.epoch.buildVoid = false → trials ≠ [] → s.campaign.pausePending = true →
          t.campaign.state = .paused ∧ t.campaign.pausePending = false ∧ t.campaign.causes = s.campaign.causes
          ∧ t.epoch.state = .none ∧ t.epoch.number = s.epoch.before
          ∧ t.planner = { Planner.afterReset with queue := trials.map (·.leg) ++ rest })
      ∧ (s.epoch.buildVoid = false → trials = [] →
          t.epoch.state = .none ∧ t.epoch.number = s.epoch.before
          ∧ t.planner = { Planner.afterReset with queue := s.planner.queue }
          ∧ (s.planner.queue = [] → t.campaign.state = .done ∧ t.campaign.result = if allGood s then .good else .bad)
          ∧ (s.planner.queue ≠ [] → s.campaign.pausePending = true →
              t.campaign.state = .paused ∧ t.campaign.pausePending = false)
          ∧ (s.planner.queue ≠ [] → s.campaign.pausePending = false →
              t.campaign.state = .waiting ∧ t.campaign.waitTimer = some (s.p 12 * 1000000)))
      ∧ (s.epoch.buildVoid = true →
          t.epoch.state = .void ∧ t.epoch.number = s.epoch.number ∧ t.epoch.timer = some (s.p 5 * 1000)
          ∧ t.planner.trials = trials ∧ t.planner.queue = rest
          ∧ t.campaign = s.campaign
          ∧ t.rail = { s.rail with voidTotal := satInc 65535 s.rail.voidTotal })

/-! ## The epoch cycle -/

/-- FETCH from an ACTIVE probe, tested in order: another length than 3 draws MALFORMED; an epoch that is neither
current nor last ended draws STALE, one last closed TOO_LATE, one voided VOIDED; in PLANNING WAIT, outside ANNOUNCE
STATE; with no duty NO_DUTY, past the last duty RANGE. Otherwise the duty record is sent with the duty count, and
the final index sets the fetch-complete flag (R98, R100, R101). -/
def Obligations.FetchServes : Prop :=
  ∀ (n : Slot) (header e1 e0 index : Byte) (s : State), probeMay n header s →
    let named := e1.toNat * 256 + e0.toNat
    let h := heard header 0x40#8 [e1, e0, index] s
    let duties := s.planner.duties.at n
    let refused := fun code =>
      exec (.fetch header [e1, e0, index]) s = .next (refusedWith .fetch header [e1, e0, index] code s)
    let current := named = s.epoch.number ∧ s.epoch.state ≠ .none
    (∀ payload : List Byte, payload.length ≤ 30 → payload.length ≠ 3 →
      exec (.fetch header payload) s = .next (refusedWith .fetch header payload .malformed s))
    ∧ (¬current → s.epoch.lastEnded = some (named, .closed) → refused .tooLate)
    ∧ (¬current → s.epoch.lastEnded = some (named, .voided) → refused .voided)
    ∧ (¬current → (∀ o, s.epoch.lastEnded ≠ some (named, o)) → refused .stale)
    ∧ (current → s.epoch.state = .void → refused .voided)
    ∧ (current → s.epoch.state = .planning → refused .wait)
    ∧ (current → s.epoch.state ∈ [EpochState.phase1, .gap, .phase2, .collecting, .grace] → refused .state)
    ∧ (current → s.epoch.state = .announce → duties = [] → refused .noDuty)
    ∧ (current → s.epoch.state = .announce → duties ≠ [] → duties.length ≤ index.toNat → refused .range)
    ∧ ∀ d, current → s.epoch.state = .announce → duties[index.toNat]? = some d →
        (index.toNat + 1 ≠ duties.length → exec (.fetch header [e1, e0, index]) s
          = .next (replied header ⟨.ok, byteOf duties.length :: d.bytes⟩ h))
        ∧ (index.toNat + 1 = duties.length → exec (.fetch header [e1, e0, index]) s
          = .next (replied header ⟨.ok, byteOf duties.length :: d.bytes⟩ (h.onNodes fun nt => { nt with
              probes := nt.probes.put n { nt.probes.at n with fetchComplete := true } })))

/-- ANNOUNCE_END: a HELD trial with a node that did not complete its fetch is VACATED and its leg goes to the head
of the queue, in trial order; each node with duties that did not is released and takes one miss. With a trial still
HELD and the rail OK, PHASE1 begins by P5; with the rail SAG the epoch is voided with cause RAIL; with none HELD the
epoch closes empty, counting nothing at the rail, and a pause, DONE or the next build follows (R29, R61, R102, R103,
R104, R105, R115, R116, R142). -/
def Obligations.AnnounceEndWithdraws : Prop :=
  ∀ s : State, s.held = none → s.campaign.state = .running → s.epoch.state = .announce →
    let missing := fun n : Slot => (s.nodes.probes.at n).fetchComplete = false
    let late := fun n : Slot => s.planner.duties.at n ≠ [] ∧ missing n
    let out := fun y : Trial => y.state = .held ∧ (missing y.driver.slot ∨ missing y.receiver.slot)
    let gone := s.planner.trials.filter (fun y => decide (out y))
    let queue := gone.map (·.leg) ++ s.planner.queue
    let kept := s.planner.trials.filter (fun y => decide (y.state = .held ∧ ¬out y))
    ∃ t, exec .announceEnd s = .next t
      ∧ t = { s with
          planner := t.planner, nodes := t.nodes, epoch := t.epoch, campaign := t.campaign, rail := t.rail
          findings := t.findings, timebase := t.timebase, grading := t.grading }
      ∧ t.planner.queue = queue ∧ t.grading.refs = s.grading.refs
      ∧ t.nodes.presence = s.nodes.presence ∧ t.nodes.station.state = s.nodes.station.state
      ∧ (∀ n, let old := s.nodes.probes.at n
          let count := if old.misses < 7 then old.misses + 1 else old.misses
          (late n → (t.nodes.probes.at n).misses = count
            ∧ (t.nodes.probes.at n).state = if old.state = .active ∧ s.p 7 ≤ count then .lapsed else old.state)
          ∧ (¬late n → (t.nodes.probes.at n).misses = old.misses ∧ (t.nodes.probes.at n).state = old.state)
          ∧ (t.nodes.probes.at n).channels = old.channels)
      ∧ (kept ≠ [] →
          t.planner = { s.planner with
            queue := queue
            trials := s.planner.trials.map (fun y => if out y then { y with state := .vacated } else y) }
          ∧ (∀ n, t.epoch.released.at n = true ↔ s.epoch.released.at n = true ∨ late n)
          ∧ (s.rail.state = .ok →
              t.epoch = { s.epoch with
                released := t.epoch.released
                state := .phase1, driveFirst := decide (s.p 4 ≠ 0)
                qstb := decide (s.p 4 = 0), dstb := decide (s.p 4 ≠ 0)
                timer := some ((if s.p 4 = 0 then s.p 1 else s.p 2) * 100)
                backup := s.epoch.backup || decide (s.timebase.source = .backup) }
              ∧ t.campaign = s.campaign ∧ t.rail = s.rail ∧ t.findings = s.findings)
          ∧ (s.rail.state = .sag →
              t.epoch = { s.epoch with
                released := t.epoch.released
                state := .void, qstb := false, dstb := false, timer := some (s.p 5 * 1000) }
              ∧ t.rail = { s.rail with
                  voidTotal := satInc 65535 s.rail.voidTotal, consecutive := satInc 255 s.rail.consecutive }
              ∧ t.findings = s.findings.after s.map ⟨.railVoid, none, none, s.epoch.number, none⟩
              ∧ t.campaign.causes.rail
                  = (s.campaign.causes.rail || decide (s.p 14 ≤ satInc 255 s.rail.consecutive))))
      ∧ (kept = [] →
          t.epoch.lastEnded = some (s.epoch.number, .closed) ∧ t.rail = s.rail ∧ t.planner.trials = []
          ∧ t.findings = s.findings)
      ∧ (kept = [] → s.campaign.pausePending = true →
          t.campaign.state = .paused ∧ t.campaign.pausePending = false ∧ t.epoch.state = .none)
      ∧ (kept = [] → s.campaign.pausePending = false → queue = [] →
          t.campaign.state = .done ∧ t.epoch.state = .none)
      ∧ (kept = [] → s.campaign.pausePending = false → queue ≠ [] →
          t.campaign.state = .running ∧ t.epoch.state = .planning
          ∧ t.epoch.number = if s.epoch.number = 65535 then 1 else s.epoch.number + 1)

/-- The phases: PHASE1_END lowers its strobe and begins GAP for P4 tenths of a millisecond, or PHASE2 at once when
P4 is 0; GAP_END begins PHASE2, the phase that PHASE1 was not, for P2 or P3 tenths; PHASE2_END lowers its strobe,
fixes the grace length at half of P6 and times the report deadline of P6 ms; REPORT_DEADLINE enters GRACE for the
length fixed (R104, R107, R113). -/
def Obligations.PhasesRun : Prop :=
  ∀ s : State, s.held = none →
    let phase2 : Epoch := { s.epoch with
      state := .phase2, qstb := s.epoch.driveFirst, dstb := !s.epoch.driveFirst
      timer := some ((if s.epoch.driveFirst then s.p 1 else s.p 2) * 100) }
    (s.epoch.state = .phase1 →
      (s.p 3 = 0 → exec .phase1End s = .next { s with epoch := phase2 })
      ∧ (s.p 3 ≠ 0 → exec .phase1End s = .next { s with epoch := { s.epoch with
          state := .gap, qstb := false, dstb := false, timer := some (s.p 3 * 100) } }))
    ∧ (s.epoch.state = .gap → exec .gapEnd s = .next { s with epoch := phase2 })
    ∧ (s.epoch.state = .phase2 → exec .phase2End s = .next { s with epoch := { s.epoch with
        state := .collecting, qstb := false, dstb := false, grace := s.p 5 / 2, timer := some (s.p 5 * 1000) } })
    ∧ (s.epoch.state = .collecting → exec .reportDeadline s = .next { s with epoch := { s.epoch with
        state := .grace, timer := some (s.epoch.grace * 1000) } })

/-- The walk of a REPORT succeeds with count k, at least 1, exactly when k entries of the list from the first index on
have sizes, 2 for a drive entry and 6 for a listen entry, that sum to the length of the entry bytes (R108, R178). -/
def Obligations.WalkReadsSizes : Prop :=
  ∀ (entries : List Entry) (first : Nat) (bytes : List Byte) (k : Nat),
    (∃ run, walk entries first bytes = some run ∧ run.length = k) ↔
      1 ≤ k ∧ k ≤ (entries.drop first).length
        ∧ (((entries.drop first).take k).map (fun e => if e.kind = .drive then 2 else 6)).sum = bytes.length

/-- REPORT from an ACTIVE probe, refused with nothing stored, in order: MALFORMED below 3 bytes; by its epoch STALE,
TOO_LATE or VOIDED; NO_DUTY; STATE outside COLLECTING and GRACE, and for a released node or one whose fetch is not
complete. From the cursor on: MALFORMED when the walk fails, MISMATCH when a lane differs, RANGE when a drive status
is none of the three. From elsewhere: DUPLICATE with cursor and count when the run ends exactly at the cursor, and
otherwise ORDER with the cursor (R98, R106, R107, R108, R109, R110). -/
def Obligations.ReportRefusals : Prop :=
  ∀ (n : Slot) (header : Byte) (s : State), probeMay n header s →
    (∀ payload : List Byte, payload.length < 3 →
      exec (.report header payload) s = .next (refusedWith .report header payload .malformed s))
    ∧ ∀ (e1 e0 first : Byte) (bytes : List Byte), bytes.length ≤ 27 →
      let payload := e1 :: e0 :: first :: bytes
      let named := e1.toNat * 256 + e0.toNat
      let cursor := (s.nodes.probes.at n).cursor
      let entries := s.planner.entries.at n
      let answered := fun a : Answer =>
        exec (.report header payload) s = .next (replied header a (heard header 0x41#8 payload s))
      let refused := fun code => answered ⟨code, []⟩
      let current := named = s.epoch.number ∧ s.epoch.state ≠ .none
      let reporting := s.epoch.state = .collecting ∨ s.epoch.state = .grace
      (¬current → s.epoch.lastEnded = some (named, .closed) → refused .tooLate)
      ∧ (¬current → s.epoch.lastEnded = some (named, .voided) → refused .voided)
      ∧ (¬current → (∀ o, s.epoch.lastEnded ≠ some (named, o)) → refused .stale)
      ∧ (current → s.epoch.state = .void → refused .voided)
      ∧ (current → s.epoch.state ≠ .void → s.planner.duties.at n = [] → refused .noDuty)
      ∧ (current → s.epoch.state ≠ .void → s.planner.duties.at n ≠ [] →
          (¬reporting → refused .state)
          ∧ (reporting → s.epoch.released.at n = true ∨ (s.nodes.probes.at n).fetchComplete = false → refused .state)
          ∧ (reporting → s.epoch.released.at n = false → (s.nodes.probes.at n).fetchComplete = true →
              cursor ≤ entries.length →
              (first.toNat = cursor → walk entries cursor bytes = none → refused .malformed)
              ∧ (first.toNat = cursor → ∀ run, walk entries cursor bytes = some run →
                  let alike := ∀ i r e, run[i]? = some r → entries[cursor + i]? = some e → r.lane = e.lane.val
                  (¬alike → refused .mismatch)
                  ∧ (alike → (∃ r ∈ run, r.value = none) → refused .range))
              ∧ (first.toNat ≠ cursor →
                  let repeats := first.toNat < cursor
                    ∧ ∃ run, walk entries first.toNat bytes = some run ∧ first.toNat + run.length = cursor
                  (repeats → answered ⟨.duplicate, [byteOf cursor, byteOf entries.length]⟩)
                  ∧ (¬repeats → answered ⟨.order, [byteOf cursor]⟩))))

/-- REPORT of the current epoch in COLLECTING or GRACE, from an ACTIVE probe that is OWED, that begins at the cursor
with its lanes and drive statuses right. When entries remain, the values are stored and the cursor advances, and
nothing else changes. When the list is reached, the miss count is also cleared, the reference of the slot takes the
quiet integrals in entry order, the trials made ready are graded in ascending trial number, and the epoch closes if
no node is left OWED. The reply carries the cursor and the entry count (R107, R109, R111, R112, R120, R136). -/
def Obligations.ReportStoresAndCompletes : Prop :=
  ∀ (n : Slot) (header e1 e0 first : Byte) (bytes : List Byte) (run : List RawEntry) (values : List EntryValue)
    (s : State), probeMay n header s → bytes.length ≤ 27 →
    e1.toNat * 256 + e0.toNat = s.epoch.number → s.epoch.state = .collecting ∨ s.epoch.state = .grace →
    s.planner.duties.at n ≠ [] → s.epoch.released.at n = false → (s.nodes.probes.at n).fetchComplete = true →
    let old := s.nodes.probes.at n
    let entries := s.planner.entries.at n
    first.toNat = old.cursor → walk entries old.cursor bytes = some run →
    (∀ i r e, run[i]? = some r → entries[old.cursor + i]? = some e → r.lane = e.lane.val) →
    run.map RawEntry.value = values.map some →
    let payload := e1 :: e0 :: first :: bytes
    let answer : Answer := ⟨.ok, [byteOf (old.cursor + values.length), byteOf entries.length]⟩
    let stored := { heard header 0x41#8 payload s with
      epoch := { s.epoch with received := s.epoch.received.put n (s.epoch.received.at n ++ values) }
      nodes := { s.nodes with probes := s.nodes.probes.put n { old with cursor := old.cursor + values.length } } }
    (old.cursor + values.length < entries.length →
      exec (.report header payload) s = .next (replied header answer stored))
    ∧ (old.cursor + values.length = entries.length →
      let move := fun (r q : Nat) =>
        if r < q * 256 then r + (q * 256 - r) * s.p 8 / 256 else r - (r - q * 256) * s.p 9 / 256
      let done := { stored with
        nodes := { s.nodes with
          probes := s.nodes.probes.put n { old with cursor := entries.length, misses := 0 } }
        grading := { s.grading with
          refs := s.grading.refs.put n
            ((samplesOf (s.epoch.received.at n ++ values)).foldl move (s.grading.refs.at n)) } }
      let ready := (heldTrials s).filter (fun y =>
        decide (standing done y.driver.slot = some .complete ∧ standing done y.receiver.slot = some .complete))
      let graded := ready.foldl gradeTrial done
      exec (.report header payload) s = .next (replied header answer
        (if ∃ m, standing graded m = some .owed then graded else closeEpoch true graded)))

/-- GRACE_END with no trial number and no held leg repeated: every leg still HELD is graded NO_REPORT, its attempts
raised by 1, margin and error count kept, not LATE, DEGRADED by the backup mark, settled when its attempts equal 1
plus the latched limit and otherwise put at the tail of the queue in trial order; every other record and every
reference is unchanged; every node still OWED takes one miss; the consecutive-void count is 0, the epoch is last
ended CLOSED, and a pause, DONE or the next build follows (R29, R61, R114, R115, R129, R132, R134, R135, R143). -/
def Obligations.GraceEndSettles : Prop :=
  ∀ s : State, s.held = none → s.campaign.state = .running → s.epoch.state = .grace →
    (s.planner.trials.map (·.number)).Nodup → (heldLegs s).Nodup →
    let attempts := fun l => (s.results.records.at l).attempts + 1
    let again := fun l => attempts l ≠ 1 + s.campaign.retestLimit
    let queue := s.planner.queue ++ (heldLegs s).filter (fun l => decide (again l))
    ∃ t, exec .graceEnd s = .next t
      ∧ (∀ l ∈ heldLegs s, t.results.records.at l = { s.results.records.at l with
          verdict := .noReport, settled := decide (¬again l), attempts := attempts l, signalLane := none
          lastEpoch := some s.epoch.number, degraded := s.epoch.backup, late := false })
      ∧ (∀ l, l ∉ heldLegs s → t.results.records.at l = s.results.records.at l)
      ∧ t.results.counts.at 7
          = s.results.counts.at 7 + ((heldLegs s).filter (fun l => decide (¬again l))).length
      ∧ (∀ i : Fin 9, i ≠ 7 → t.results.counts.at i = s.results.counts.at i)
      ∧ t.planner.queue = queue ∧ t.grading.refs = s.grading.refs ∧ t.findings = s.findings
      ∧ t.rail = { s.rail with consecutive := 0 }
      ∧ t.epoch.lastEnded = some (s.epoch.number, .closed)
      ∧ t = { s with
          results := t.results, planner := t.planner, nodes := t.nodes, epoch := t.epoch, campaign := t.campaign
          rail := t.rail, timebase := t.timebase, grading := t.grading }
      ∧ (∀ n, let old := s.nodes.probes.at n
          let count := if old.misses < 7 then old.misses + 1 else old.misses
          (standing s n = some .owed → (t.nodes.probes.at n).misses = count
            ∧ (t.nodes.probes.at n).state = if old.state = .active ∧ s.p 7 ≤ count then .lapsed else old.state)
          ∧ (standing s n ≠ some .owed →
              (t.nodes.probes.at n).misses = old.misses ∧ (t.nodes.probes.at n).state = old.state))
      ∧ (s.campaign.pausePending = true → t.campaign.state = .paused ∧ t.epoch.state = .none)
      ∧ (s.campaign.pausePending = false → queue = [] → t.campaign.state = .done ∧ t.epoch.state = .none)
      ∧ (s.campaign.pausePending = false → queue ≠ [] → t.campaign.state = .running ∧ t.epoch.state = .planning)

/-- VOID_SETTLE_END: the legs still HELD go to the head of the queue in trial order with their records unchanged,
and the epoch is last ended VOIDED; the campaign is PAUSED if a pause cause is present or a pause pending, with the
causes kept, and otherwise a plan build starts (R61, R81, R118). -/
def Obligations.VoidSettleReturns : Prop :=
  ∀ s : State, s.held = none → s.campaign.state = .running → s.epoch.state = .void →
    let held := s.campaign.causes ≠ ⟨false, false, false⟩ ∨ s.campaign.pausePending = true
    ∃ t, exec .voidSettleEnd s = .next t
      ∧ t.planner.queue = heldLegs s ++ s.planner.queue ∧ t.planner.trials = []
      ∧ t.epoch.lastEnded = some (s.epoch.number, .voided)
      ∧ t.grading.refs = s.grading.refs
      ∧ t = { s with
          planner := t.planner, nodes := t.nodes, epoch := t.epoch, campaign := t.campaign, timebase := t.timebase
          grading := t.grading }
      ∧ (∀ n, (t.nodes.probes.at n).misses = (s.nodes.probes.at n).misses
          ∧ (t.nodes.probes.at n).state = (s.nodes.probes.at n).state)
      ∧ (held → t.campaign.state = .paused ∧ t.campaign.pausePending = false
          ∧ t.campaign.causes = s.campaign.causes ∧ t.epoch.state = .none ∧ t.epoch.number = s.epoch.number)
      ∧ (¬held → t.campaign = s.campaign ∧ t.epoch.state = .planning
          ∧ t.epoch.number = if s.epoch.number = 65535 then 1 else s.epoch.number + 1)

/-! ## Grading and findings -/

/-- Grading a HELD trial whose entries are there: the floor is the receiving slot's reference snapshot over 256, at
least P11; the verdict is the first of SHORTED, NO_DRIVE, ERRORS, PASS, CROSSED, OPEN, WEAK whose condition holds;
the record takes verdict, attempts, margin, error count, signal lane, epoch, DEGRADED and LATE; PASS, OPEN, CROSSED
and SHORTED settle at once, the others when the attempts equal 1 plus the latched limit, and a leg that does not
settle joins the tail of the queue; the settled count of the verdict rises; the trial is GRADED; every other record
is unchanged. In a live campaign it presents, for CROSSED, one CROSSED finding of the signal lane, and for every other
verdict a BLEED for each neighbour that reaches the floor times the lesser of T_iso and T_pass, in lane order. The
quantities come from the received entries: the signal is d - q or 0, scaled by 16, the margin its quotient by the
floor, at most 65535; the neighbours stand in ascending lane order (R123 to R128, R130 to R135). -/
def Obligations.GradingDecides : Prop :=
  (∀ (s : State) (y : Trial),
    let drv := y.driver.slot
    let rcv := y.receiver.slot
    let rf := max (s.grading.refSnap.at rcv / 256) (s.p 10)
    let quantities := fun (lane : Lane) (q d e : Nat) =>
      let g := if d < q then 0 else d - q
      (⟨lane, 16 * g, min (16 * g / rf) 65535, e⟩ : Reading)
    let sent := fun (n : Slot) (i : Nat) (e : Entry) (v : EntryValue) =>
      (s.planner.entries.at n)[i]? = some e ∧ (s.epoch.received.at n)[i]? = some v
    let once := fun (n : Slot) (kind : EntryKind) (i : Nat) =>
      ∀ j e, (s.planner.entries.at n)[j]? = some e → e.kind = kind → e.trial = y.number → j = i
    (∀ i lane st, sent drv i ⟨.drive, lane, y.number⟩ (.drive st) → once drv .drive i → driverEntry s y = some st)
    ∧ (∀ i lane q d e, sent rcv i ⟨.expected, lane, y.number⟩ (.listen q d e) → once rcv .expected i →
        expectedEntry s y = some (quantities lane q d e))
    ∧ (∀ r, r ∈ neighbourEntries s y ↔
        ∃ i lane q d e, sent rcv i ⟨.neighbour, lane, y.number⟩ (.listen q d e) ∧ r = quantities lane q d e)
    ∧ ((s.planner.entries.at rcv).Pairwise (fun a b =>
          a.kind = .neighbour → b.kind = .neighbour → a.trial = b.trial → a.lane < b.lane) →
        (neighbourEntries s y).Pairwise (fun a b => a.lane < b.lane)))
  ∧ ∀ (s : State) (y : Trial) (st : DriveStatus) (x : Reading),
    driverEntry s y = some st → expectedEntry s y = some x →
    let th := s.grading.thrSnap.at (s.map.links.at (linkOfLeg y.leg)).cls
    let rf := max (s.grading.refSnap.at y.receiver.slot / 256) (s.p 10)
    let ns := neighbourEntries s y
    let passes := rf * th.tPass ≤ x.scaled
    let v : Verdict :=
      if st = .currentLimit then .shorted
      else if st = .notDriven then .noDrive
      else if passes ∧ th.eMax < x.errors then .errors
      else if passes then .pass
      else if ∃ m ∈ ns, rf * th.tPass ≤ m.scaled then .crossed
      else if x.scaled < rf * min th.tOpen th.tPass then .open
      else .weak
    let old := s.results.records.at y.leg
    let settled := v ∈ [Verdict.pass, .open, .crossed, .shorted] ∨ old.attempts + 1 = 1 + s.campaign.retestLimit
    let t := gradeTrial s y
    t.results.records.at y.leg = {
        verdict := v, settled := decide settled, attempts := old.attempts + 1
        margin := some x.margin, errorCount := some x.errors
        signalLane := if v = .crossed then (signalReading th rf ns).map (·.lane) else none
        lastEpoch := some s.epoch.number, degraded := s.epoch.backup, late := decide (s.epoch.state = .grace) }
    ∧ (∀ l, l ≠ y.leg → t.results.records.at l = s.results.records.at l)
    ∧ (s.campaign.state.live = false → t.findings = s.findings)
    ∧ (s.campaign.state.live = true →
        let presented : List Presentation :=
          if v = .crossed then
            match signalReading th rf ns with
            | some m => [⟨.crossed, some y.receiver, some m.lane, s.epoch.number, some m.margin⟩]
            | none => []
          else (ns.filter (fun m => decide (rf * min th.tIso th.tPass ≤ m.scaled))).map
            (fun m => ⟨.bleed, some ⟨y.receiver.slot, m.lane⟩, none, s.epoch.number, some m.margin⟩)
        t.findings = presented.foldl (fun fl p => fl.after s.map p) s.findings)
    ∧ (settled → t.planner.queue = s.planner.queue
        ∧ ∃ i, v.countIx = some i ∧ t.results.counts = s.results.counts.put i (s.results.counts.at i + 1))
    ∧ (¬settled → t.planner.queue = s.planner.queue ++ [y.leg] ∧ t.results.counts = s.results.counts)
    ∧ t.planner = { s.planner with
        queue := t.planner.queue
        trials := s.planner.trials.map (fun z => if z.number = y.number then { z with state := .graded } else z) }
    ∧ t = { s with
        results := t.results, planner := t.planner, findings := t.findings
        campaign := { s.campaign with lamps := t.campaign.lamps, blinkTimer := t.campaign.blinkTimer } }

/-- The signal lane of a CROSSED verdict: among the neighbour lanes whose scaled signal reaches the floor times the
pass threshold, the one with the larger, and the lower-numbered lane when they are equal; the CROSSED finding
carries its margin as the peak (R128). -/
def Obligations.SignalLane : Prop :=
  ∀ (th : Thresholds) (rf epoch : Nat) (y : Trial) (ns : List Reading), ns.Pairwise (fun a b => a.lane < b.lane) →
    (signalReading th rf ns = none ↔ ∀ m ∈ ns, m.scaled < rf * th.tPass)
    ∧ ∀ r, signalReading th rf ns = some r →
        r ∈ ns ∧ rf * th.tPass ≤ r.scaled
        ∧ (∀ m ∈ ns, rf * th.tPass ≤ m.scaled →
            m.scaled < r.scaled ∨ (m.scaled = r.scaled ∧ r.lane ≤ m.lane))
        ∧ findingsOf th rf epoch y .crossed ns = [⟨.crossed, some y.receiver, some r.lane, epoch, some r.margin⟩]

/-- A presentation in RUNNING, WAITING or PAUSED adds a hit, up to 255, to the record of its key, raising peak
margin and with it a CROSSED record's signal lane when the margin exceeds the peak; with no such record it is
appended, its owning link the occupancy entry of its lane end, while there are fewer than 64, and otherwise the
overflow count rises. In any other campaign state it is discarded. Nothing but the findings and the lamps changes
(R54, R155, R156, R157). -/
def Obligations.FindingPresented : Prop :=
  ∀ (p : Presentation) (s : State),
    let t := present p s
    let has := fun f : Finding => f.kind = p.kind ∧ f.laneEnd = p.laneEnd
    (s.campaign.state.live = false → t = s)
    ∧ (s.campaign.state.live = true →
        t = { s with
          findings := t.findings
          campaign := { s.campaign with lamps := t.campaign.lamps, blinkTimer := t.campaign.blinkTimer } }
        ∧ (∀ before f after, s.findings.list = before ++ f :: after → has f → (∀ g ∈ before, ¬has g) →
            let higher := ∃ old new, f.peak = some old ∧ p.margin = some new ∧ old < new
            (higher → t.findings = ⟨before ++ { f with
                hits := satInc 255 f.hits, peak := p.margin
                signalLane := if f.kind = .crossed then p.signalLane else f.signalLane } :: after, s.findings.overflow⟩)
            ∧ (¬higher → t.findings = ⟨before ++ { f with hits := satInc 255 f.hits } :: after, s.findings.overflow⟩))
        ∧ ((∀ g ∈ s.findings.list, ¬has g) → s.findings.list.length < 64 →
            t.findings = ⟨s.findings.list ++ [⟨p.kind, p.laneEnd,
              (p.laneEnd.bind fun e => s.map.occupancy.at e.index), p.signalLane, p.epoch, 1, p.margin⟩],
              s.findings.overflow⟩)
        ∧ ((∀ g ∈ s.findings.list, ¬has g) → 64 ≤ s.findings.list.length →
            t.findings = ⟨s.findings.list, satInc 65535 s.findings.overflow⟩))

/-! ## Supervision -/

/-- The sag filter: RSENSE_DEPARTURE to an output that disagrees with the rail state starts P14 us, to one that
agrees abandons the timing. SAG_FILTER_EXPIRY turns SAG to OK, signalling nothing; from OK to SAG it counts a sag,
and in PHASE1, GAP or PHASE2 it voids the epoch with cause RAIL: strobes low, P6 ms of settle, void total and
consecutive count raised, a RAIL_VOID presented, and the RAIL cause placed when the count is P15 or more (R116,
R140, R141, R142). -/
def Obligations.RailSupervision : Prop :=
  ∀ s : State, s.held = none →
    (∀ below, s.rail.below ≠ below →
      exec (.rsenseDeparture below) s = .next { s with rail := { s.rail with
        below := below
        filter := if (s.rail.state = .ok ↔ below = true) then some (s.p 13) else none } })
    ∧ (s.rail.filter ≠ none → s.rail.state = .sag →
        exec .sagFilterExpiry s = .next { s with rail := { s.rail with state := .ok, filter := none } })
    ∧ (s.rail.filter ≠ none → s.rail.state = .ok → s.epoch.state ∉ [EpochState.phase1, .gap, .phase2] →
        exec .sagFilterExpiry s = .next { s with rail := { s.rail with
          state := .sag, filter := none, sagCount := satInc 65535 s.rail.sagCount } })
    ∧ (s.rail.filter ≠ none → s.rail.state = .ok → s.epoch.state ∈ [EpochState.phase1, .gap, .phase2] →
        s.campaign.state = .running →
        ∃ t, exec .sagFilterExpiry s = .next t
          ∧ t.rail = { s.rail with
              state := .sag, filter := none, sagCount := satInc 65535 s.rail.sagCount
              voidTotal := satInc 65535 s.rail.voidTotal, consecutive := satInc 255 s.rail.consecutive }
          ∧ t.epoch = { s.epoch with
              state := .void, qstb := false, dstb := false, timer := some (s.p 5 * 1000) }
          ∧ t.findings = s.findings.after s.map ⟨.railVoid, none, none, s.epoch.number, none⟩
          ∧ t.campaign = { s.campaign with
              causes := { s.campaign.causes with
                rail := s.campaign.causes.rail || decide (s.p 14 ≤ satInc 255 s.rail.consecutive) }
              lamps := t.campaign.lamps, blinkTimer := none }
          ∧ t = { s with rail := t.rail, epoch := t.epoch, findings := t.findings, campaign := t.campaign })

/-- The timebase: an edge while STOPPED begins a clean run of P16 ms; every edge starts the 20 us gap again, and an
idle step in which the gap runs out brings CLOCK_LOSS (the idle microsecond is log entry 1); a loss stops the run,
clears a pending return, counts, and moves the source to BACKUP, marking the epoch only if it was REFERENCE and a
phase or the gap is running; the end of a clean run on BACKUP makes the return pending, and applies it at once in
IDLE, WAITING, DONE and ABORTED (R105, R146, R147, R148). -/
def Obligations.TimebaseSupervision : Prop :=
  ∀ s : State, s.held = none →
    (s.timebase.running = false →
      exec .refclkEdge s = .next { s with timebase := { s.timebase with
        running := true, gap := some 20, returnTimer := some (s.p 15 * 1000) } })
    ∧ (s.timebase.running = true →
      exec .refclkEdge s = .next { s with timebase := { s.timebase with gap := some 20 } })
    ∧ (s.pending = [] → ∀ left, s.timebase.gap = some left →
      ∃ t, step s = .next t ∧ t.timebase.gap = some (left - 1) ∧ t.timebase.running = s.timebase.running
        ∧ t.timebase.lossCount = s.timebase.lossCount ∧ (left = 1 ↔ Instr.clockLoss ∈ t.pending))
    ∧ (s.timebase.running = true →
        exec .clockLoss s = .next { s with
          timebase := ⟨.backup, false, none, none, false, satInc 65535 s.timebase.lossCount⟩
          epoch := { s.epoch with
            backup := s.epoch.backup || decide (s.timebase.source = .reference
              ∧ s.epoch.state ∈ [EpochState.phase1, .gap, .phase2]) } })
    ∧ (s.timebase.returnTimer ≠ none → s.timebase.source = .backup →
        (s.campaign.state = .running ∨ s.campaign.state = .paused →
          exec .returnTimerExpiry s = .next { s with timebase := { s.timebase with
            returnTimer := none, returnPending := true } })
        ∧ (s.campaign.state ≠ .running → s.campaign.state ≠ .paused →
          exec .returnTimerExpiry s = .next { s with timebase := { s.timebase with
            source := .reference, returnTimer := none, returnPending := false } }))

/-! ## Reads and the nonvolatile store -/

/-- The reads of the ACTIVE station have no effect, and draw MALFORMED at another length. MAP_READ of 1 to 5 records
up to index 479 sends the index and the records, otherwise RANGE. RESULT_READ sends the record of a leg of the
working map, and RANGE for any other index. FINDING_READ sends the record at an index below the findings count, and
RANGE from it on. CERT_READ of page 0 or 1 sends the page of a DONE slot from its stored bytes, STATE for a slot
that is not DONE, and RANGE for a slot above 3 or a page above 1 (R46, R153, R159, R173). -/
def Obligations.StationReads : Prop :=
  ∀ (header a b c : Byte) (s : State), stationMay header s →
    let first := a.toNat * 256 + b.toNat
    (∀ k n, (k, n) ∈ [(RequestKind.mapRead, 3), (.resultRead, 2), (.findingRead, 1), (.certRead, 2)] →
      ∀ payload : List Byte, payload.length ≤ 30 → payload.length ≠ n →
        exec (requestRow k header payload) s = .next (refusedWith k header payload .malformed s))
    ∧ (1 ≤ c.toNat → c.toNat ≤ 5 → first + c.toNat ≤ 480 →
      exec (.mapRead header [a, b, c]) s = .next (replied header
        ⟨.ok, a :: b :: ((s.map.links.toList.drop first).take c.toNat).flatMap LinkRecord.bytes⟩
        (heard header 0x21#8 [a, b, c] s)))
    ∧ (c.toNat < 1 ∨ 5 < c.toNat ∨ 480 < first + c.toNat →
      exec (.mapRead header [a, b, c]) s = .next (refusedWith .mapRead header [a, b, c] .range s))
    ∧ (∀ l : LegIx, l.val = first → s.map.isLeg l = true →
      exec (.resultRead header [a, b]) s = .next (replied header
        ⟨.ok, resultBytes l (s.results.records.at l)⟩ (heard header 0x50#8 [a, b] s)))
    ∧ ((∀ l : LegIx, l.val = first → s.map.isLeg l = false) →
      exec (.resultRead header [a, b]) s = .next (refusedWith .resultRead header [a, b] .range s))
    ∧ (∀ f, s.findings.list[a.toNat]? = some f →
      exec (.findingRead header [a]) s = .next (replied header
        ⟨.ok, findingBytes a.toNat s.findings.list.length f⟩ (heard header 0x51#8 [a] s)))
    ∧ (s.findings.list.length ≤ a.toNat →
      exec (.findingRead header [a]) s = .next (refusedWith .findingRead header [a] .range s))
    ∧ (∀ n : NvIx, n.val = a.toNat → b.toNat ≤ 1 →
      ((s.nv.certs.at n).begun = true → (s.nv.certs.at n).done = true →
        exec (.certRead header [a, b]) s = .next (replied header
          ⟨.ok, certificatePage (s.nv.certs.at n).body b.toNat⟩ (heard header 0x61#8 [a, b] s)))
      ∧ ((s.nv.certs.at n).done = false →
        exec (.certRead header [a, b]) s = .next (refusedWith .certRead header [a, b] .state s)))
    ∧ (3 < a.toNat ∨ 1 < b.toNat →
      exec (.certRead header [a, b]) s = .next (refusedWith .certRead header [a, b] .range s))

/-- An armed MAP_BURN of a VALID map in a settled campaign with the NV state IDLE takes the lowest FREE generation
slot: its begun mark is written, the NV state is BURNING, the last result PENDING for it, and its generation body is
on its way; an armed CERT_COMMIT with a tag of 8 bytes, in DONE, not yet certified, with a campaign map origin,
takes the lowest FREE certificate slot likewise. Each draws, in order, MALFORMED by length, STATE where those
conditions of map and campaign do not hold, BUSY while the NV state is not IDLE, and FULL with no FREE slot (R164,
R167, R168, R170, R171). -/
def Obligations.StoreTakesWrites : Prop :=
  ∀ (header : Byte) (s : State), stationMay header s →
    let isFree := fun x : NvSlot => x.begun = false ∧ x.done = false
    (s.port.arm = some .mapBurn →
      (∀ payload : List Byte, payload.length ≤ 30 → payload ≠ [] →
        exec (.mapBurn header payload) s = .next (refusedWith .mapBurn header payload .malformed s))
      ∧ (¬(s.map.status = .valid ∧ s.campaign.state.live = false) →
        exec (.mapBurn header []) s = .next (refusedWith .mapBurn header [] .state s)))
    ∧ (s.port.arm = some .certCommit → ∀ tag : List Byte, tag.length ≤ 30 →
      (tag.length ≠ 8 → exec (.certCommit header tag) s = .next (refusedWith .certCommit header tag .malformed s))
      ∧ (tag.length = 8 →
          ¬(s.campaign.state = .done ∧ s.campaign.certified = false ∧ s.campaign.origin ≠ none) →
          exec (.certCommit header tag) s = .next (refusedWith .certCommit header tag .state s)))
    ∧ (s.port.arm = some .mapBurn → s.map.status = .valid → s.campaign.state.live = false →
      (s.nv.state ≠ .idle → exec (.mapBurn header []) s = .next (refusedWith .mapBurn header [] .busy s))
      ∧ (s.nv.state = .idle →
        ((∀ n, ¬isFree (s.nv.gens.at n)) → exec (.mapBurn header []) s = .next (refusedWith .mapBurn header [] .full s))
        ∧ ∀ n : NvIx, isFree (s.nv.gens.at n) → (∀ m < n, ¬isFree (s.nv.gens.at m)) →
          exec (.mapBurn header []) s = .next (replied header ⟨.accepted, [byteOf n, byteOf (n.val + 1)]⟩
            { heard header 0x23#8 [] s with nv := { s.nv with
              gens := s.nv.gens.put n { s.nv.gens.at n with begun := true }
              state := .burning, last := ⟨.pending, some (.mapBurn, n)⟩
              write := some ⟨n, generationBody n s.map.links⟩ } })))
    ∧ ∀ tag : List Byte, tag.length = 8 → s.port.arm = some .certCommit → s.campaign.state = .done →
      s.campaign.certified = false → s.campaign.origin ≠ none →
      (s.nv.state ≠ .idle → exec (.certCommit header tag) s = .next (refusedWith .certCommit header tag .busy s))
      ∧ (s.nv.state = .idle →
        ((∀ n, ¬isFree (s.nv.certs.at n)) →
          exec (.certCommit header tag) s = .next (refusedWith .certCommit header tag .full s))
        ∧ ∀ n : NvIx, isFree (s.nv.certs.at n) → (∀ m < n, ¬isFree (s.nv.certs.at m)) →
          exec (.certCommit header tag) s = .next (replied header ⟨.accepted, [byteOf n]⟩
            { heard header 0x60#8 tag s with nv := { s.nv with
              certs := s.nv.certs.put n { s.nv.certs.at n with begun := true }
              state := .writingCert, last := ⟨.pending, some (.certCommit, n)⟩
              write := some ⟨n, certificateBody n tag s⟩ } }))

/-- A burn or a certificate write completes: when every byte reads back as written and the body is intact, the slot
is DONE, the last result OK, and the map origin the generation burned or the certified flag set; when a byte reads
back otherwise, the slot stays SPOILED, the last result is FAILED, and origin and flag stay. The NV state is IDLE
(R169, R171; that the body stored is what reads back is log entry 12). -/
def Obligations.StoreWritesComplete : Prop :=
  ∀ (flaws : List (Nat × Byte)) (w : NvWrite) (s : State), s.held = none → s.nv.write = some w →
    let good := readBack flaws w.bytes = w.bytes
    (s.nv.state = .burning → (s.nv.gens.at w.slot).done = false →
      (good → intact w.bytes = true → exec (.burnComplete flaws) s = .next { s with
        nv := { s.nv with
          gens := s.nv.gens.put w.slot { s.nv.gens.at w.slot with body := w.bytes, done := true }
          state := .idle, last := { s.nv.last with outcome := .ok }, write := none }
        map := { s.map with origin := some w.slot } })
      ∧ (¬good → exec (.burnComplete flaws) s = .next { s with
        nv := { s.nv with
          gens := s.nv.gens.put w.slot { s.nv.gens.at w.slot with body := readBack flaws w.bytes }
          state := .idle, last := { s.nv.last with outcome := .failed }, write := none } }))
    ∧ (s.nv.state = .writingCert → (s.nv.certs.at w.slot).done = false →
      (good → intact w.bytes = true → exec (.certWriteComplete flaws) s = .next { s with
        nv := { s.nv with
          certs := s.nv.certs.put w.slot { s.nv.certs.at w.slot with body := w.bytes, done := true }
          state := .idle, last := { s.nv.last with outcome := .ok }, write := none }
        campaign := { s.campaign with certified := true } })
      ∧ (¬good → exec (.certWriteComplete flaws) s = .next { s with
        nv := { s.nv with
          certs := s.nv.certs.put w.slot { s.nv.certs.at w.slot with body := readBack flaws w.bytes }
          state := .idle, last := { s.nv.last with outcome := .failed }, write := none } }))

/-- A generation body is 2,403 bytes that begin with the generation number and are intact, and the records read back
from it are the records it was made from, for every map whose records not in use hold the values of R36 (R36, R166,
R168, R176, R178, R181). -/
def Obligations.BurnedMapLoads : Prop :=
  ∀ (n : NvIx) (links : Table LinkRecord 480), (∀ k, (links.at k).inUse = true ∨ links.at k = LinkRecord.unused) →
    (generationBody n links).length = 2403 ∧ (generationBody n links).head? = some (byteOf (n.val + 1))
      ∧ intact (generationBody n links) = true ∧ linksOfBody (generationBody n links) = links

/-! ## Resets -/

/-- POWER_RESET with nRESET high and PIN_RESET take every block to its reset values for the kind, keep the marks and
bodies of the store, and load the newest intact DONE generation: its records, VALID, its origin, their links-in-use
count and the occupancy table of their ends, with the load-fallback flag set exactly when a DONE slot above it was
passed over; with none, an empty EDITED map. The line state then is IDLE also on a dominant level (log entry 26).
NRESET_ASSERTED, or POWER_RESET with nRESET low, begins a reset: strobes low, lamps off, SL released, a write in
flight stopped; what a power-up finds the store to have lost is its operand (log entry 12) (R18, R19, R56, R76, R78,
R97, R119, R139, R145, R150, R158, R165, R174, R175, R176). -/
def Obligations.ResetsLeave : Prop :=
  ∀ (dominant : Bool) (s : State),
    let after := fun (kind : ResetKind) (nv : NvStore) (t : State) =>
      let doneAt := fun n : NvIx => (nv.gens.at n).begun = true ∧ (nv.gens.at n).done = true
      let whole := fun n : NvIx => doneAt n ∧ intact (nv.gens.at n).body = true
      t.held = none ∧ t.campaign.lastReset = kind ∧ t.campaign.state = .idle ∧ t.campaign.number = 0
      ∧ t.campaign.params = Params.defaults ∧ t.campaign.retestLimit = 1 ∧ t.campaign.origin = none
      ∧ t.campaign.result = .none ∧ t.campaign.certified = false ∧ t.campaign.lamps = ⟨false, false, false⟩
      ∧ t.campaign.causes = ⟨false, false, false⟩ ∧ t.campaign.pausePending = false ∧ t.campaign.waitTimer = none
      ∧ t.port = { Port.afterReset false with levelFromReset := dominant }
      ∧ (∀ n, t.nodes.probes.at n = ⟨.absent, none, 0, false, 0⟩) ∧ t.nodes.station = ⟨.absent, none, 0, false, 0⟩
      ∧ t.nodes.holder = none ∧ t.nodes.silence = 0
      ∧ (∀ n, let low := (s.nodes.presence.at n).low
          t.nodes.presence.at n = ⟨low, false, if low then some 10000 else none⟩)
      ∧ t.planner = ⟨[], [], Table.fill 20 [], Table.fill 20 [], []⟩
      ∧ t.epoch.number = 0 ∧ t.epoch.state = .none ∧ t.epoch.timer = none ∧ t.epoch.lastEnded = none
      ∧ t.epoch.backup = false ∧ t.epoch.received = Table.fill 20 [] ∧ t.epoch.qstb = false ∧ t.epoch.dstb = false
      ∧ t.grading = ⟨Table.fill 20 16384, Table.fill 20 16384, Params.defaults.thresholds⟩
      ∧ t.results = ⟨Table.fill 960 ⟨.none, false, 0, none, none, none, none, false, false⟩, Table.fill 9 0, 0⟩
      ∧ t.findings = ⟨[], 0⟩
      ∧ t.rail = ⟨.ok, if s.rail.below then some 20 else none, 0, 0, 0, s.rail.below⟩
      ∧ t.timebase = ⟨.backup, false, none, none, false, 0⟩
      ∧ t.nv.gens = nv.gens ∧ t.nv.certs = nv.certs ∧ t.nv.state = .idle ∧ t.nv.last = ⟨.none, none⟩
      ∧ t.nv.write = none
      ∧ (∀ n, whole n → (∀ m, n < m → ¬whole m) →
          t.map.links = linksOfBody (nv.gens.at n).body ∧ t.map.status = .valid ∧ t.map.error = .none
          ∧ t.map.origin = some n ∧ (t.nv.fallback = true ↔ ∃ m, n < m ∧ doneAt m)
          ∧ t.map.inUse = t.map.links.toList.countP (·.inUse)
          ∧ (∀ (e : LaneEnd) (k : LinkIx), t.map.occupancy.at e.index = some k → names t.map k e)
          ∧ ∀ e : LaneEnd, t.map.occupancy.at e.index = none → ∀ k, ¬names t.map k e)
      ∧ ((∀ n, ¬whole n) →
          t.map = MapStore.empty ∧ (t.nv.fallback = true ↔ ∃ m, doneAt m))
    let quiet := fun (kind : ResetKind) (nv : NvStore) (t : State) =>
      t.held = some kind ∧ t.epoch.qstb = false ∧ t.epoch.dstb = false ∧ t.campaign.lamps = ⟨false, false, false⟩
      ∧ t.port.tx = [] ∧ t.port.rxBytes = [] ∧ t.port.rxBits = [] ∧ t.nv = { nv with state := .idle, write := none }
    (∀ decay : List NvDecay, let found := decay.foldl NvStore.decayed s.nv
      (∃ t, exec (.powerReset dominant false decay) s = .next t ∧ after .power found t)
      ∧ ∃ t, exec (.powerReset dominant true decay) s = .next t ∧ quiet .power found t)
    ∧ (s.held ≠ some .power → ∃ t, exec (.pinReset dominant) s = .next t ∧ after .pin s.nv t)
    ∧ (s.held = some .power → ∃ t, exec (.pinReset dominant) s = .next t ∧ after .power s.nv t)
    ∧ (s.held = none → ∃ t, exec .nresetAsserted s = .next t ∧ quiet .pin s.nv t)

/-- An armed RESTART from the ACTIVE station is accepted with OK in every campaign state and map status and waits
for the end of its reply; with a payload it draws MALFORMED, and while the NV state is not IDLE, BUSY. Its arm is
spent in each case. The RESTART reset, which the end of that reply begins, takes every block to its RESTART values:
the campaign number, parameters, working map (its error record with it, log entry 28; a scan in flight abandoned to
EDITED with every entry FREE), timebase and store are kept, the references are P12 times 256, and a pending return is
applied. The grace length, the phase order and the number before a build that the epoch then holds are the model's
choice (log entry 19), as is the line state IDLE on a dominant level (log entry 26) (R18, R33, R52, R56, R72, R77,
R78, R119, R139, R145, R148, R165). -/
def Obligations.RestartRuns : Prop :=
  (∀ (header : Byte) (s : State), stationMay header s → s.port.arm = some .restart →
    (s.nv.state = .idle → exec (.restart header []) s = .next (replied header ⟨.ok, []⟩
      ((heard header 0x70#8 [] s).onCampaign fun c => { c with restartDue := true })))
    ∧ (s.nv.state ≠ .idle → exec (.restart header []) s = .next (refusedWith .restart header [] .busy s))
    ∧ ∀ payload : List Byte, payload.length ≤ 30 → payload ≠ [] →
        exec (.restart header payload) s = .next (refusedWith .restart header payload .malformed s))
  ∧ ∀ (dominant : Bool) (s : State), s.held = none → s.port.line = .replying → s.port.replyPhase = .sending →
    s.campaign.restartDue = true →
    ∃ t, exec (.replyComplete dominant) s = .next t
    ∧ t = { s with
      port := { Port.afterReset false with levelFromReset := dominant }
      nodes := NodeTable.afterReset s.nodes.presence
      map := t.map
      campaign := { s.campaign with
        state := .idle, causes := ⟨false, false, false⟩, pausePending := false, retestLimit := s.p 6, origin := none
        waitTimer := none, result := .none, certified := false, lastReset := .restart
        lamps := ⟨false, false, false⟩, blinkTimer := none, restartDue := false }
      planner := Planner.afterReset
      epoch := Epoch.afterReset
      grading := ⟨Table.fill 20 (s.p 11 * 256), Table.fill 20 (s.p 11 * 256), s.campaign.params.thresholds⟩
      results := Results.cleared
      findings := Findings.cleared
      rail := ⟨.ok, if s.rail.below then some (s.p 13) else none, 0, 0, 0, s.rail.below⟩
      timebase := if s.timebase.returnPending
        then { s.timebase with source := .reference, returnPending := false } else s.timebase }
    ∧ (s.map.status ≠ .checking → t.map = s.map)
    ∧ (s.map.status = .checking → t.map = { s.map with
        status := .edited, error := .none, occupancy := Table.fill 960 none })

/-! ## Laws of the device -/

/-- The reset state, whose open values are the model's choice (log entries 11, 19), meets every law stated below. -/
def Obligations.LawsAtReset : Prop :=
  RunningLaw State.reset ∧ StrobeLaw State.reset ∧ LampLaw State.reset ∧ FindingsLaw State.reset
    ∧ StoreLaw State.reset ∧ ReferenceLaw State.reset ∧ TrialLaw State.reset ∧ EmptyLaw State.reset
    ∧ QueueLaw State.reset ∧ AttemptLaw State.reset ∧ AccountLaw State.reset ∧ CounterLaw State.reset
    ∧ CountLaw State.reset ∧ ReportLaw State.reset ∧ WorkingMapLaw State.reset.map ∧ GenerationLaw State.reset.nv

/-- Every step keeps the law of the outputs: epochs exist exactly while the campaign is RUNNING, QSTB and DSTB are
never high together and low outside PHASE1 and PHASE2, and outside a reset the lamps are those of the table (R57,
R71, R97, R104). -/
def Obligations.OutputsStayLawful : Prop :=
  ∀ s t : State, RunningLaw s ∧ StrobeLaw s ∧ LampLaw s → step s = .next t → RunningLaw t ∧ StrobeLaw t ∧ LampLaw t

/-- Every step keeps the law of the findings and the bounds of the counters (R17, R139, R145, R154). -/
def Obligations.FindingsStayLawful : Prop :=
  ∀ s t : State, FindingsLaw s ∧ CounterLaw s → step s = .next t → FindingsLaw t ∧ CounterLaw t

/-- Every step keeps the law of the store, and no step clears a mark: under any command and any reset the begun
slots never decrease, and a done slot is a begun slot. Every step also keeps the law of the working map and of the
generations: a VALID map keeps the map law with a true occupancy table, and every intact DONE generation holds lawful
records, provided that what a power-up finds the store to hold does too (R36, R47, R53, R164, R167, R176; what a
power-up finds is log entry 12, and the table all FREE in CHECKING is log entry 29). -/
def Obligations.MarksAreNeverCleared : Prop :=
  ∀ s t : State, step s = .next t →
    (StoreLaw s → StoreLaw t)
    ∧ (WorkingMapLaw s.map → GenerationLaw s.nv →
        (∀ dominant low decay rest, s.pending = .powerReset dominant low decay :: rest →
          GenerationLaw (decay.foldl NvStore.decayed s.nv)) →
        WorkingMapLaw t.map ∧ GenerationLaw t.nv)
    ∧ ∀ n : NvIx,
        ((s.nv.gens.at n).begun = true → (t.nv.gens.at n).begun = true)
        ∧ ((s.nv.gens.at n).done = true → (t.nv.gens.at n).done = true)
        ∧ ((s.nv.certs.at n).begun = true → (t.nv.certs.at n).begun = true)
        ∧ ((s.nv.certs.at n).done = true → (t.nv.certs.at n).done = true)

/-- Every step keeps every slot reference and every reference snapshot within 0 to 16,776,960 (R121). -/
def Obligations.ReferencesStayInRange : Prop :=
  ∀ s t : State, ReferenceLaw s → step s = .next t → ReferenceLaw t

/-- Every step keeps the law of the plan: at most 32 trials, at most 8 drive duties and no more listen lanes than
channels for a node, every node of a trial in the snapshot, and no two trials in conflict (R83, R86, R89, R90). -/
def Obligations.PlansStayLawful : Prop := ∀ s t : State, TrialLaw s → step s = .next t → TrialLaw t

/-- Every step keeps the law of the queue, of the attempts and of the counts: no leg is pending twice or both pending
and held, a leg pending or held is unsettled, no leg is tried more than one plus the latched retest limit, each
settled count is the number of records settled with its verdict, the nine sum to the settled records, and the DEGRADED
leg count is the number of records with the flag (R79, R132, R152). -/
def Obligations.AttemptsStayLimited : Prop :=
  ∀ s t : State, RunningLaw s ∧ EmptyLaw s ∧ QueueLaw s ∧ AttemptLaw s → step s = .next t →
    (RunningLaw t ∧ EmptyLaw t ∧ QueueLaw t ∧ AttemptLaw t) ∧ (CountLaw s → CountLaw t)

/-- No leg is lost: every step keeps the law that, in a live campaign, the legs settled, pending and held are the legs
of the map, together with the standing of the reports on which an early close rests; and a step that ends a live
campaign in DONE leaves every leg settled (R59, R106, R109, R111, R112, R182). -/
def Obligations.NoLegIsLost : Prop :=
  ∀ s t : State, RunningLaw s ∧ EmptyLaw s ∧ QueueLaw s ∧ AccountLaw s ∧ ReportLaw s → step s = .next t →
    (RunningLaw t ∧ EmptyLaw t ∧ QueueLaw t ∧ AccountLaw t ∧ ReportLaw t)
      ∧ (s.campaign.state.live = true → t.campaign.state = .done → settledCount t = t.map.legList.length)

/-- The clock source returns to REFERENCE only at a plan build start, where the epoch number advances from the number
the step found (0 for an accepted START), or in IDLE, WAITING, DONE or ABORTED: whatever the step, no build in flight
and no epoch past its build sees a return (R148). -/
def Obligations.ReturnsOnlyBetweenEpochs : Prop :=
  ∀ s t : State, step s = .next t → s.timebase.source = .backup → t.timebase.source = .reference →
    (t.epoch.state = .planning
        ∧ t.epoch.before = (if s.campaign.state.live = true then s.epoch.number else 0)
        ∧ t.epoch.number = if t.epoch.before = 65535 then 1 else t.epoch.before + 1)
      ∨ t.campaign.state ∈ [CampaignState.idle, .waiting, .done, .aborted]

/-- No request from an address other than 31 changes the map, the store, the parameters, the campaign number, the
latched retest limit, the certified flag, the station's state or its holder (R30). -/
def Obligations.ProbesCannotReach : Prop :=
  ∀ (k : RequestKind) (header : Byte) (payload : List Byte) (s t : State), addressOf header ≠ 31 →
    exec (requestRow k header payload) s = .next t →
    t.map = s.map ∧ t.nv = s.nv ∧ t.campaign.params = s.campaign.params ∧ t.campaign.number = s.campaign.number
      ∧ t.campaign.retestLimit = s.campaign.retestLimit ∧ t.campaign.certified = s.campaign.certified
      ∧ t.campaign.restartDue = s.campaign.restartDue ∧ t.nodes.station.state = s.nodes.station.state
      ∧ t.nodes.holder = s.nodes.holder ∧ t.nodes.silence = s.nodes.silence
end

