-- ==== Sys2Proof/Laws/State.lean ====
section
/-! SUPPORT. What each field of State is after each update of one block: one lemma per field per update. -/

namespace Sys2Proof.Machine

/-! ## onPort -/

@[simp] theorem State.onPort_port (s : State) (f : Port → Port) : (s.onPort f).port = f s.port := rfl
@[simp] theorem State.onPort_nodes (s : State) (f : Port → Port) : (s.onPort f).nodes = s.nodes := rfl
@[simp] theorem State.onPort_map (s : State) (f : Port → Port) : (s.onPort f).map = s.map := rfl
@[simp] theorem State.onPort_campaign (s : State) (f : Port → Port) : (s.onPort f).campaign = s.campaign := rfl
@[simp] theorem State.onPort_planner (s : State) (f : Port → Port) : (s.onPort f).planner = s.planner := rfl
@[simp] theorem State.onPort_epoch (s : State) (f : Port → Port) : (s.onPort f).epoch = s.epoch := rfl
@[simp] theorem State.onPort_grading (s : State) (f : Port → Port) : (s.onPort f).grading = s.grading := rfl
@[simp] theorem State.onPort_results (s : State) (f : Port → Port) : (s.onPort f).results = s.results := rfl
@[simp] theorem State.onPort_findings (s : State) (f : Port → Port) : (s.onPort f).findings = s.findings := rfl
@[simp] theorem State.onPort_rail (s : State) (f : Port → Port) : (s.onPort f).rail = s.rail := rfl
@[simp] theorem State.onPort_timebase (s : State) (f : Port → Port) : (s.onPort f).timebase = s.timebase := rfl
@[simp] theorem State.onPort_nv (s : State) (f : Port → Port) : (s.onPort f).nv = s.nv := rfl
@[simp] theorem State.onPort_held (s : State) (f : Port → Port) : (s.onPort f).held = s.held := rfl
@[simp] theorem State.onPort_freeDraws (s : State) (f : Port → Port) : (s.onPort f).freeDraws = s.freeDraws := rfl
@[simp] theorem State.onPort_pending (s : State) (f : Port → Port) : (s.onPort f).pending = s.pending := rfl
@[simp] theorem State.onPort_onPort_twice (s : State) (f g : Port → Port) : (s.onPort f).onPort g = s.onPort (fun x => g (f x)) := rfl
@[simp] theorem State.onPort_same (s : State) : s.onPort (fun x => x) = s := rfl

/-! ## onNodes -/

@[simp] theorem State.onNodes_port (s : State) (f : NodeTable → NodeTable) : (s.onNodes f).port = s.port := rfl
@[simp] theorem State.onNodes_nodes (s : State) (f : NodeTable → NodeTable) : (s.onNodes f).nodes = f s.nodes := rfl
@[simp] theorem State.onNodes_map (s : State) (f : NodeTable → NodeTable) : (s.onNodes f).map = s.map := rfl
@[simp] theorem State.onNodes_campaign (s : State) (f : NodeTable → NodeTable) : (s.onNodes f).campaign = s.campaign := rfl
@[simp] theorem State.onNodes_planner (s : State) (f : NodeTable → NodeTable) : (s.onNodes f).planner = s.planner := rfl
@[simp] theorem State.onNodes_epoch (s : State) (f : NodeTable → NodeTable) : (s.onNodes f).epoch = s.epoch := rfl
@[simp] theorem State.onNodes_grading (s : State) (f : NodeTable → NodeTable) : (s.onNodes f).grading = s.grading := rfl
@[simp] theorem State.onNodes_results (s : State) (f : NodeTable → NodeTable) : (s.onNodes f).results = s.results := rfl
@[simp] theorem State.onNodes_findings (s : State) (f : NodeTable → NodeTable) : (s.onNodes f).findings = s.findings := rfl
@[simp] theorem State.onNodes_rail (s : State) (f : NodeTable → NodeTable) : (s.onNodes f).rail = s.rail := rfl
@[simp] theorem State.onNodes_timebase (s : State) (f : NodeTable → NodeTable) : (s.onNodes f).timebase = s.timebase := rfl
@[simp] theorem State.onNodes_nv (s : State) (f : NodeTable → NodeTable) : (s.onNodes f).nv = s.nv := rfl
@[simp] theorem State.onNodes_held (s : State) (f : NodeTable → NodeTable) : (s.onNodes f).held = s.held := rfl
@[simp] theorem State.onNodes_freeDraws (s : State) (f : NodeTable → NodeTable) : (s.onNodes f).freeDraws = s.freeDraws := rfl
@[simp] theorem State.onNodes_pending (s : State) (f : NodeTable → NodeTable) : (s.onNodes f).pending = s.pending := rfl
@[simp] theorem State.onNodes_onNodes_twice (s : State) (f g : NodeTable → NodeTable) : (s.onNodes f).onNodes g = s.onNodes (fun x => g (f x)) := rfl
@[simp] theorem State.onNodes_same (s : State) : s.onNodes (fun x => x) = s := rfl

/-! ## onMap -/

@[simp] theorem State.onMap_port (s : State) (f : MapStore → MapStore) : (s.onMap f).port = s.port := rfl
@[simp] theorem State.onMap_nodes (s : State) (f : MapStore → MapStore) : (s.onMap f).nodes = s.nodes := rfl
@[simp] theorem State.onMap_map (s : State) (f : MapStore → MapStore) : (s.onMap f).map = f s.map := rfl
@[simp] theorem State.onMap_campaign (s : State) (f : MapStore → MapStore) : (s.onMap f).campaign = s.campaign := rfl
@[simp] theorem State.onMap_planner (s : State) (f : MapStore → MapStore) : (s.onMap f).planner = s.planner := rfl
@[simp] theorem State.onMap_epoch (s : State) (f : MapStore → MapStore) : (s.onMap f).epoch = s.epoch := rfl
@[simp] theorem State.onMap_grading (s : State) (f : MapStore → MapStore) : (s.onMap f).grading = s.grading := rfl
@[simp] theorem State.onMap_results (s : State) (f : MapStore → MapStore) : (s.onMap f).results = s.results := rfl
@[simp] theorem State.onMap_findings (s : State) (f : MapStore → MapStore) : (s.onMap f).findings = s.findings := rfl
@[simp] theorem State.onMap_rail (s : State) (f : MapStore → MapStore) : (s.onMap f).rail = s.rail := rfl
@[simp] theorem State.onMap_timebase (s : State) (f : MapStore → MapStore) : (s.onMap f).timebase = s.timebase := rfl
@[simp] theorem State.onMap_nv (s : State) (f : MapStore → MapStore) : (s.onMap f).nv = s.nv := rfl
@[simp] theorem State.onMap_held (s : State) (f : MapStore → MapStore) : (s.onMap f).held = s.held := rfl
@[simp] theorem State.onMap_freeDraws (s : State) (f : MapStore → MapStore) : (s.onMap f).freeDraws = s.freeDraws := rfl
@[simp] theorem State.onMap_pending (s : State) (f : MapStore → MapStore) : (s.onMap f).pending = s.pending := rfl
@[simp] theorem State.onMap_onMap_twice (s : State) (f g : MapStore → MapStore) : (s.onMap f).onMap g = s.onMap (fun x => g (f x)) := rfl
@[simp] theorem State.onMap_same (s : State) : s.onMap (fun x => x) = s := rfl

/-! ## onCampaign -/

@[simp] theorem State.onCampaign_port (s : State) (f : Campaign → Campaign) : (s.onCampaign f).port = s.port := rfl
@[simp] theorem State.onCampaign_nodes (s : State) (f : Campaign → Campaign) : (s.onCampaign f).nodes = s.nodes := rfl
@[simp] theorem State.onCampaign_map (s : State) (f : Campaign → Campaign) : (s.onCampaign f).map = s.map := rfl
@[simp] theorem State.onCampaign_campaign (s : State) (f : Campaign → Campaign) : (s.onCampaign f).campaign = f s.campaign := rfl
@[simp] theorem State.onCampaign_planner (s : State) (f : Campaign → Campaign) : (s.onCampaign f).planner = s.planner := rfl
@[simp] theorem State.onCampaign_epoch (s : State) (f : Campaign → Campaign) : (s.onCampaign f).epoch = s.epoch := rfl
@[simp] theorem State.onCampaign_grading (s : State) (f : Campaign → Campaign) : (s.onCampaign f).grading = s.grading := rfl
@[simp] theorem State.onCampaign_results (s : State) (f : Campaign → Campaign) : (s.onCampaign f).results = s.results := rfl
@[simp] theorem State.onCampaign_findings (s : State) (f : Campaign → Campaign) : (s.onCampaign f).findings = s.findings := rfl
@[simp] theorem State.onCampaign_rail (s : State) (f : Campaign → Campaign) : (s.onCampaign f).rail = s.rail := rfl
@[simp] theorem State.onCampaign_timebase (s : State) (f : Campaign → Campaign) : (s.onCampaign f).timebase = s.timebase := rfl
@[simp] theorem State.onCampaign_nv (s : State) (f : Campaign → Campaign) : (s.onCampaign f).nv = s.nv := rfl
@[simp] theorem State.onCampaign_held (s : State) (f : Campaign → Campaign) : (s.onCampaign f).held = s.held := rfl
@[simp] theorem State.onCampaign_freeDraws (s : State) (f : Campaign → Campaign) : (s.onCampaign f).freeDraws = s.freeDraws := rfl
@[simp] theorem State.onCampaign_pending (s : State) (f : Campaign → Campaign) : (s.onCampaign f).pending = s.pending := rfl
@[simp] theorem State.onCampaign_onCampaign_twice (s : State) (f g : Campaign → Campaign) : (s.onCampaign f).onCampaign g = s.onCampaign (fun x => g (f x)) := rfl
@[simp] theorem State.onCampaign_same (s : State) : s.onCampaign (fun x => x) = s := rfl

/-! ## onPlanner -/

@[simp] theorem State.onPlanner_port (s : State) (f : Planner → Planner) : (s.onPlanner f).port = s.port := rfl
@[simp] theorem State.onPlanner_nodes (s : State) (f : Planner → Planner) : (s.onPlanner f).nodes = s.nodes := rfl
@[simp] theorem State.onPlanner_map (s : State) (f : Planner → Planner) : (s.onPlanner f).map = s.map := rfl
@[simp] theorem State.onPlanner_campaign (s : State) (f : Planner → Planner) : (s.onPlanner f).campaign = s.campaign := rfl
@[simp] theorem State.onPlanner_planner (s : State) (f : Planner → Planner) : (s.onPlanner f).planner = f s.planner := rfl
@[simp] theorem State.onPlanner_epoch (s : State) (f : Planner → Planner) : (s.onPlanner f).epoch = s.epoch := rfl
@[simp] theorem State.onPlanner_grading (s : State) (f : Planner → Planner) : (s.onPlanner f).grading = s.grading := rfl
@[simp] theorem State.onPlanner_results (s : State) (f : Planner → Planner) : (s.onPlanner f).results = s.results := rfl
@[simp] theorem State.onPlanner_findings (s : State) (f : Planner → Planner) : (s.onPlanner f).findings = s.findings := rfl
@[simp] theorem State.onPlanner_rail (s : State) (f : Planner → Planner) : (s.onPlanner f).rail = s.rail := rfl
@[simp] theorem State.onPlanner_timebase (s : State) (f : Planner → Planner) : (s.onPlanner f).timebase = s.timebase := rfl
@[simp] theorem State.onPlanner_nv (s : State) (f : Planner → Planner) : (s.onPlanner f).nv = s.nv := rfl
@[simp] theorem State.onPlanner_held (s : State) (f : Planner → Planner) : (s.onPlanner f).held = s.held := rfl
@[simp] theorem State.onPlanner_freeDraws (s : State) (f : Planner → Planner) : (s.onPlanner f).freeDraws = s.freeDraws := rfl
@[simp] theorem State.onPlanner_pending (s : State) (f : Planner → Planner) : (s.onPlanner f).pending = s.pending := rfl
@[simp] theorem State.onPlanner_onPlanner_twice (s : State) (f g : Planner → Planner) : (s.onPlanner f).onPlanner g = s.onPlanner (fun x => g (f x)) := rfl
@[simp] theorem State.onPlanner_same (s : State) : s.onPlanner (fun x => x) = s := rfl

/-! ## onEpoch -/

@[simp] theorem State.onEpoch_port (s : State) (f : Epoch → Epoch) : (s.onEpoch f).port = s.port := rfl
@[simp] theorem State.onEpoch_nodes (s : State) (f : Epoch → Epoch) : (s.onEpoch f).nodes = s.nodes := rfl
@[simp] theorem State.onEpoch_map (s : State) (f : Epoch → Epoch) : (s.onEpoch f).map = s.map := rfl
@[simp] theorem State.onEpoch_campaign (s : State) (f : Epoch → Epoch) : (s.onEpoch f).campaign = s.campaign := rfl
@[simp] theorem State.onEpoch_planner (s : State) (f : Epoch → Epoch) : (s.onEpoch f).planner = s.planner := rfl
@[simp] theorem State.onEpoch_epoch (s : State) (f : Epoch → Epoch) : (s.onEpoch f).epoch = f s.epoch := rfl
@[simp] theorem State.onEpoch_grading (s : State) (f : Epoch → Epoch) : (s.onEpoch f).grading = s.grading := rfl
@[simp] theorem State.onEpoch_results (s : State) (f : Epoch → Epoch) : (s.onEpoch f).results = s.results := rfl
@[simp] theorem State.onEpoch_findings (s : State) (f : Epoch → Epoch) : (s.onEpoch f).findings = s.findings := rfl
@[simp] theorem State.onEpoch_rail (s : State) (f : Epoch → Epoch) : (s.onEpoch f).rail = s.rail := rfl
@[simp] theorem State.onEpoch_timebase (s : State) (f : Epoch → Epoch) : (s.onEpoch f).timebase = s.timebase := rfl
@[simp] theorem State.onEpoch_nv (s : State) (f : Epoch → Epoch) : (s.onEpoch f).nv = s.nv := rfl
@[simp] theorem State.onEpoch_held (s : State) (f : Epoch → Epoch) : (s.onEpoch f).held = s.held := rfl
@[simp] theorem State.onEpoch_freeDraws (s : State) (f : Epoch → Epoch) : (s.onEpoch f).freeDraws = s.freeDraws := rfl
@[simp] theorem State.onEpoch_pending (s : State) (f : Epoch → Epoch) : (s.onEpoch f).pending = s.pending := rfl
@[simp] theorem State.onEpoch_onEpoch_twice (s : State) (f g : Epoch → Epoch) : (s.onEpoch f).onEpoch g = s.onEpoch (fun x => g (f x)) := rfl
@[simp] theorem State.onEpoch_same (s : State) : s.onEpoch (fun x => x) = s := rfl

/-! ## onGrading -/

@[simp] theorem State.onGrading_port (s : State) (f : Grading → Grading) : (s.onGrading f).port = s.port := rfl
@[simp] theorem State.onGrading_nodes (s : State) (f : Grading → Grading) : (s.onGrading f).nodes = s.nodes := rfl
@[simp] theorem State.onGrading_map (s : State) (f : Grading → Grading) : (s.onGrading f).map = s.map := rfl
@[simp] theorem State.onGrading_campaign (s : State) (f : Grading → Grading) : (s.onGrading f).campaign = s.campaign := rfl
@[simp] theorem State.onGrading_planner (s : State) (f : Grading → Grading) : (s.onGrading f).planner = s.planner := rfl
@[simp] theorem State.onGrading_epoch (s : State) (f : Grading → Grading) : (s.onGrading f).epoch = s.epoch := rfl
@[simp] theorem State.onGrading_grading (s : State) (f : Grading → Grading) : (s.onGrading f).grading = f s.grading := rfl
@[simp] theorem State.onGrading_results (s : State) (f : Grading → Grading) : (s.onGrading f).results = s.results := rfl
@[simp] theorem State.onGrading_findings (s : State) (f : Grading → Grading) : (s.onGrading f).findings = s.findings := rfl
@[simp] theorem State.onGrading_rail (s : State) (f : Grading → Grading) : (s.onGrading f).rail = s.rail := rfl
@[simp] theorem State.onGrading_timebase (s : State) (f : Grading → Grading) : (s.onGrading f).timebase = s.timebase := rfl
@[simp] theorem State.onGrading_nv (s : State) (f : Grading → Grading) : (s.onGrading f).nv = s.nv := rfl
@[simp] theorem State.onGrading_held (s : State) (f : Grading → Grading) : (s.onGrading f).held = s.held := rfl
@[simp] theorem State.onGrading_freeDraws (s : State) (f : Grading → Grading) : (s.onGrading f).freeDraws = s.freeDraws := rfl
@[simp] theorem State.onGrading_pending (s : State) (f : Grading → Grading) : (s.onGrading f).pending = s.pending := rfl
@[simp] theorem State.onGrading_onGrading_twice (s : State) (f g : Grading → Grading) : (s.onGrading f).onGrading g = s.onGrading (fun x => g (f x)) := rfl
@[simp] theorem State.onGrading_same (s : State) : s.onGrading (fun x => x) = s := rfl

/-! ## onResults -/

@[simp] theorem State.onResults_port (s : State) (f : Results → Results) : (s.onResults f).port = s.port := rfl
@[simp] theorem State.onResults_nodes (s : State) (f : Results → Results) : (s.onResults f).nodes = s.nodes := rfl
@[simp] theorem State.onResults_map (s : State) (f : Results → Results) : (s.onResults f).map = s.map := rfl
@[simp] theorem State.onResults_campaign (s : State) (f : Results → Results) : (s.onResults f).campaign = s.campaign := rfl
@[simp] theorem State.onResults_planner (s : State) (f : Results → Results) : (s.onResults f).planner = s.planner := rfl
@[simp] theorem State.onResults_epoch (s : State) (f : Results → Results) : (s.onResults f).epoch = s.epoch := rfl
@[simp] theorem State.onResults_grading (s : State) (f : Results → Results) : (s.onResults f).grading = s.grading := rfl
@[simp] theorem State.onResults_results (s : State) (f : Results → Results) : (s.onResults f).results = f s.results := rfl
@[simp] theorem State.onResults_findings (s : State) (f : Results → Results) : (s.onResults f).findings = s.findings := rfl
@[simp] theorem State.onResults_rail (s : State) (f : Results → Results) : (s.onResults f).rail = s.rail := rfl
@[simp] theorem State.onResults_timebase (s : State) (f : Results → Results) : (s.onResults f).timebase = s.timebase := rfl
@[simp] theorem State.onResults_nv (s : State) (f : Results → Results) : (s.onResults f).nv = s.nv := rfl
@[simp] theorem State.onResults_held (s : State) (f : Results → Results) : (s.onResults f).held = s.held := rfl
@[simp] theorem State.onResults_freeDraws (s : State) (f : Results → Results) : (s.onResults f).freeDraws = s.freeDraws := rfl
@[simp] theorem State.onResults_pending (s : State) (f : Results → Results) : (s.onResults f).pending = s.pending := rfl
@[simp] theorem State.onResults_onResults_twice (s : State) (f g : Results → Results) : (s.onResults f).onResults g = s.onResults (fun x => g (f x)) := rfl
@[simp] theorem State.onResults_same (s : State) : s.onResults (fun x => x) = s := rfl

/-! ## onFindings -/

@[simp] theorem State.onFindings_port (s : State) (f : Findings → Findings) : (s.onFindings f).port = s.port := rfl
@[simp] theorem State.onFindings_nodes (s : State) (f : Findings → Findings) : (s.onFindings f).nodes = s.nodes := rfl
@[simp] theorem State.onFindings_map (s : State) (f : Findings → Findings) : (s.onFindings f).map = s.map := rfl
@[simp] theorem State.onFindings_campaign (s : State) (f : Findings → Findings) : (s.onFindings f).campaign = s.campaign := rfl
@[simp] theorem State.onFindings_planner (s : State) (f : Findings → Findings) : (s.onFindings f).planner = s.planner := rfl
@[simp] theorem State.onFindings_epoch (s : State) (f : Findings → Findings) : (s.onFindings f).epoch = s.epoch := rfl
@[simp] theorem State.onFindings_grading (s : State) (f : Findings → Findings) : (s.onFindings f).grading = s.grading := rfl
@[simp] theorem State.onFindings_results (s : State) (f : Findings → Findings) : (s.onFindings f).results = s.results := rfl
@[simp] theorem State.onFindings_findings (s : State) (f : Findings → Findings) : (s.onFindings f).findings = f s.findings := rfl
@[simp] theorem State.onFindings_rail (s : State) (f : Findings → Findings) : (s.onFindings f).rail = s.rail := rfl
@[simp] theorem State.onFindings_timebase (s : State) (f : Findings → Findings) : (s.onFindings f).timebase = s.timebase := rfl
@[simp] theorem State.onFindings_nv (s : State) (f : Findings → Findings) : (s.onFindings f).nv = s.nv := rfl
@[simp] theorem State.onFindings_held (s : State) (f : Findings → Findings) : (s.onFindings f).held = s.held := rfl
@[simp] theorem State.onFindings_freeDraws (s : State) (f : Findings → Findings) : (s.onFindings f).freeDraws = s.freeDraws := rfl
@[simp] theorem State.onFindings_pending (s : State) (f : Findings → Findings) : (s.onFindings f).pending = s.pending := rfl
@[simp] theorem State.onFindings_onFindings_twice (s : State) (f g : Findings → Findings) : (s.onFindings f).onFindings g = s.onFindings (fun x => g (f x)) := rfl
@[simp] theorem State.onFindings_same (s : State) : s.onFindings (fun x => x) = s := rfl

/-! ## onRail -/

@[simp] theorem State.onRail_port (s : State) (f : Rail → Rail) : (s.onRail f).port = s.port := rfl
@[simp] theorem State.onRail_nodes (s : State) (f : Rail → Rail) : (s.onRail f).nodes = s.nodes := rfl
@[simp] theorem State.onRail_map (s : State) (f : Rail → Rail) : (s.onRail f).map = s.map := rfl
@[simp] theorem State.onRail_campaign (s : State) (f : Rail → Rail) : (s.onRail f).campaign = s.campaign := rfl
@[simp] theorem State.onRail_planner (s : State) (f : Rail → Rail) : (s.onRail f).planner = s.planner := rfl
@[simp] theorem State.onRail_epoch (s : State) (f : Rail → Rail) : (s.onRail f).epoch = s.epoch := rfl
@[simp] theorem State.onRail_grading (s : State) (f : Rail → Rail) : (s.onRail f).grading = s.grading := rfl
@[simp] theorem State.onRail_results (s : State) (f : Rail → Rail) : (s.onRail f).results = s.results := rfl
@[simp] theorem State.onRail_findings (s : State) (f : Rail → Rail) : (s.onRail f).findings = s.findings := rfl
@[simp] theorem State.onRail_rail (s : State) (f : Rail → Rail) : (s.onRail f).rail = f s.rail := rfl
@[simp] theorem State.onRail_timebase (s : State) (f : Rail → Rail) : (s.onRail f).timebase = s.timebase := rfl
@[simp] theorem State.onRail_nv (s : State) (f : Rail → Rail) : (s.onRail f).nv = s.nv := rfl
@[simp] theorem State.onRail_held (s : State) (f : Rail → Rail) : (s.onRail f).held = s.held := rfl
@[simp] theorem State.onRail_freeDraws (s : State) (f : Rail → Rail) : (s.onRail f).freeDraws = s.freeDraws := rfl
@[simp] theorem State.onRail_pending (s : State) (f : Rail → Rail) : (s.onRail f).pending = s.pending := rfl
@[simp] theorem State.onRail_onRail_twice (s : State) (f g : Rail → Rail) : (s.onRail f).onRail g = s.onRail (fun x => g (f x)) := rfl
@[simp] theorem State.onRail_same (s : State) : s.onRail (fun x => x) = s := rfl

/-! ## onTimebase -/

@[simp] theorem State.onTimebase_port (s : State) (f : Timebase → Timebase) : (s.onTimebase f).port = s.port := rfl
@[simp] theorem State.onTimebase_nodes (s : State) (f : Timebase → Timebase) : (s.onTimebase f).nodes = s.nodes := rfl
@[simp] theorem State.onTimebase_map (s : State) (f : Timebase → Timebase) : (s.onTimebase f).map = s.map := rfl
@[simp] theorem State.onTimebase_campaign (s : State) (f : Timebase → Timebase) : (s.onTimebase f).campaign = s.campaign := rfl
@[simp] theorem State.onTimebase_planner (s : State) (f : Timebase → Timebase) : (s.onTimebase f).planner = s.planner := rfl
@[simp] theorem State.onTimebase_epoch (s : State) (f : Timebase → Timebase) : (s.onTimebase f).epoch = s.epoch := rfl
@[simp] theorem State.onTimebase_grading (s : State) (f : Timebase → Timebase) : (s.onTimebase f).grading = s.grading := rfl
@[simp] theorem State.onTimebase_results (s : State) (f : Timebase → Timebase) : (s.onTimebase f).results = s.results := rfl
@[simp] theorem State.onTimebase_findings (s : State) (f : Timebase → Timebase) : (s.onTimebase f).findings = s.findings := rfl
@[simp] theorem State.onTimebase_rail (s : State) (f : Timebase → Timebase) : (s.onTimebase f).rail = s.rail := rfl
@[simp] theorem State.onTimebase_timebase (s : State) (f : Timebase → Timebase) : (s.onTimebase f).timebase = f s.timebase := rfl
@[simp] theorem State.onTimebase_nv (s : State) (f : Timebase → Timebase) : (s.onTimebase f).nv = s.nv := rfl
@[simp] theorem State.onTimebase_held (s : State) (f : Timebase → Timebase) : (s.onTimebase f).held = s.held := rfl
@[simp] theorem State.onTimebase_freeDraws (s : State) (f : Timebase → Timebase) : (s.onTimebase f).freeDraws = s.freeDraws := rfl
@[simp] theorem State.onTimebase_pending (s : State) (f : Timebase → Timebase) : (s.onTimebase f).pending = s.pending := rfl
@[simp] theorem State.onTimebase_onTimebase_twice (s : State) (f g : Timebase → Timebase) : (s.onTimebase f).onTimebase g = s.onTimebase (fun x => g (f x)) := rfl
@[simp] theorem State.onTimebase_same (s : State) : s.onTimebase (fun x => x) = s := rfl

/-! ## onNv -/

@[simp] theorem State.onNv_port (s : State) (f : NvStore → NvStore) : (s.onNv f).port = s.port := rfl
@[simp] theorem State.onNv_nodes (s : State) (f : NvStore → NvStore) : (s.onNv f).nodes = s.nodes := rfl
@[simp] theorem State.onNv_map (s : State) (f : NvStore → NvStore) : (s.onNv f).map = s.map := rfl
@[simp] theorem State.onNv_campaign (s : State) (f : NvStore → NvStore) : (s.onNv f).campaign = s.campaign := rfl
@[simp] theorem State.onNv_planner (s : State) (f : NvStore → NvStore) : (s.onNv f).planner = s.planner := rfl
@[simp] theorem State.onNv_epoch (s : State) (f : NvStore → NvStore) : (s.onNv f).epoch = s.epoch := rfl
@[simp] theorem State.onNv_grading (s : State) (f : NvStore → NvStore) : (s.onNv f).grading = s.grading := rfl
@[simp] theorem State.onNv_results (s : State) (f : NvStore → NvStore) : (s.onNv f).results = s.results := rfl
@[simp] theorem State.onNv_findings (s : State) (f : NvStore → NvStore) : (s.onNv f).findings = s.findings := rfl
@[simp] theorem State.onNv_rail (s : State) (f : NvStore → NvStore) : (s.onNv f).rail = s.rail := rfl
@[simp] theorem State.onNv_timebase (s : State) (f : NvStore → NvStore) : (s.onNv f).timebase = s.timebase := rfl
@[simp] theorem State.onNv_nv (s : State) (f : NvStore → NvStore) : (s.onNv f).nv = f s.nv := rfl
@[simp] theorem State.onNv_held (s : State) (f : NvStore → NvStore) : (s.onNv f).held = s.held := rfl
@[simp] theorem State.onNv_freeDraws (s : State) (f : NvStore → NvStore) : (s.onNv f).freeDraws = s.freeDraws := rfl
@[simp] theorem State.onNv_pending (s : State) (f : NvStore → NvStore) : (s.onNv f).pending = s.pending := rfl
@[simp] theorem State.onNv_onNv_twice (s : State) (f g : NvStore → NvStore) : (s.onNv f).onNv g = s.onNv (fun x => g (f x)) := rfl
@[simp] theorem State.onNv_same (s : State) : s.onNv (fun x => x) = s := rfl

end Sys2Proof.Machine
end

