-- ==== Sys2Proof/Laws/Tables.lean ====
section
/-! SUPPORT. What stands in each place of a table after each operation on it. -/

namespace Sys2Proof

@[simp] theorem Table.at_fill (n : Nat) (a : α) (i : Fin n) : (Table.fill n a).at i = a := by
  simp [Table.fill, Table.at]

@[simp] theorem Table.at_put_self (t : Table α n) (i : Fin n) (a : α) : (t.put i a).at i = a := by
  simp [Table.put, Table.at]

theorem Table.at_put_ne (t : Table α n) (i j : Fin n) (a : α) (h : j ≠ i) : (t.put i a).at j = t.at j := by
  have h' : i.val ≠ j.val := fun e => h (Fin.ext e.symm)
  simp [Table.put, Table.at, h']

theorem Table.at_put (t : Table α n) (i j : Fin n) (a : α) : (t.put i a).at j = if j = i then a else t.at j := by
  by_cases h : j = i
  · simp [h]
  · simp [h, Table.at_put_ne]

@[simp] theorem Table.at_change_self (t : Table α n) (i : Fin n) (f : α → α) : (t.change i f).at i = f (t.at i) := by
  simp [Table.change]

theorem Table.at_change_ne (t : Table α n) (i j : Fin n) (f : α → α) (h : j ≠ i) :
    (t.change i f).at j = t.at j := Table.at_put_ne t i j _ h

theorem Table.at_change (t : Table α n) (i j : Fin n) (f : α → α) :
    (t.change i f).at j = if j = i then f (t.at i) else t.at j := Table.at_put t i j _

@[simp] theorem Table.at_each (f : α → β) (t : Table α n) (i : Fin n) : (t.each f).at i = f (t.at i) := by
  simp [Table.each, Table.at]

@[simp] theorem Table.at_tabulate (f : Fin n → α) (i : Fin n) : (Table.tabulate f).at i = f i := by
  simp [Table.tabulate, Table.at]

/-- Two tables with the same thing in every place are equal. -/
theorem Table.ext_at {t u : Table α n} (h : ∀ i, t.at i = u.at i) : t = u :=
  Vector.ext fun i hi => h ⟨i, hi⟩

@[simp] theorem Table.put_at_self (t : Table α n) (i : Fin n) : t.put i (t.at i) = t :=
  Table.ext_at fun j => by rw [Table.at_put]; split <;> simp_all

@[simp] theorem Table.put_put (t : Table α n) (i : Fin n) (a b : α) : (t.put i a).put i b = t.put i b :=
  Table.ext_at fun j => by simp only [Table.at_put]; split <;> rfl

theorem Table.each_fill (f : α → β) (n : Nat) (a : α) : (Table.fill n a).each f = Table.fill n (f a) :=
  Table.ext_at fun i => by simp

/-- What the indexed list holds: every place once, with what stands in it. -/
theorem Table.mem_indexed (t : Table α n) (i : Fin n) (a : α) : (i, a) ∈ t.indexed ↔ a = t.at i := by
  unfold Table.indexed
  rw [List.mem_iff_getElem]
  constructor
  · rintro ⟨k, hk, h⟩
    simp only [List.getElem_zip, Prod.mk.injEq] at h
    obtain ⟨h1, h2⟩ := h
    simp at h1 h2
    subst h1
    simp [Table.at, ← h2]
  · rintro rfl
    refine ⟨i.val, by simp, ?_⟩
    simp [Table.at]

@[simp] theorem Table.length_indexed (t : Table α n) : t.indexed.length = n := by simp [Table.indexed]

theorem Table.indexed_map_fst (t : Table α n) : t.indexed.map Prod.fst = List.finRange n := by
  unfold Table.indexed
  exact List.map_fst_zip (by simp)

theorem Table.indexed_map_snd (t : Table α n) : t.indexed.map Prod.snd = t.toList := by
  unfold Table.indexed
  exact List.map_snd_zip (by simp)

end Sys2Proof
end

