-- ==== Sys2Proof/Laws/Epochs.lean ====
section
/-! SUPPORT. The tests of FETCH and REPORT, the standings, and the planner's tests, each said once. -/

namespace Sys2Proof.Machine

/-! ## The epoch a request names (R98) -/

theorem epochRefusal_void {named : Nat} {e : Epoch} (h : named = e.number ∧ e.state ≠ .none)
    (hv : e.state = .void) : epochRefusal named e = some .voided := by
  simp [epochRefusal, h, hv]

theorem epochRefusal_current {named : Nat} {e : Epoch} (h : named = e.number ∧ e.state ≠ .none)
    (hv : e.state ≠ .void) : epochRefusal named e = none := by
  simp [epochRefusal, h, hv]

theorem epochRefusal_closed {named : Nat} {e : Epoch} (h : ¬(named = e.number ∧ e.state ≠ .none))
    (hl : e.lastEnded = some (named, .closed)) : epochRefusal named e = some .tooLate := by
  rw [epochRefusal, if_neg h, hl]; simp

theorem epochRefusal_voided {named : Nat} {e : Epoch} (h : ¬(named = e.number ∧ e.state ≠ .none))
    (hl : e.lastEnded = some (named, .voided)) : epochRefusal named e = some .voided := by
  rw [epochRefusal, if_neg h, hl]; simp

theorem epochRefusal_stale {named : Nat} {e : Epoch} (h : ¬(named = e.number ∧ e.state ≠ .none))
    (hl : ∀ o, e.lastEnded ≠ some (named, o)) : epochRefusal named e = some .stale := by
  rw [epochRefusal, if_neg h]
  rcases hh : e.lastEnded with _ | ⟨m, o⟩
  · rfl
  · have hm : m ≠ named := by rintro rfl; exact hl o hh
    cases o <;> simp [hm]

/-! ## Report standings (R106) -/

/-- A node with duties outside ANNOUNCE, not released, whose fetch is complete, is OWED below the entry count and
COMPLETE at it. -/
theorem standing_reporting {s : State} {n : Slot} (hd : s.planner.duties.at n ≠ [])
    (ha : s.epoch.state ≠ .announce) (hr : s.epoch.released.at n = false)
    (hf : (s.nodes.probes.at n).fetchComplete = true) :
    ((s.nodes.probes.at n).cursor < (s.planner.entries.at n).length → standing s n = some .owed)
      ∧ ((s.nodes.probes.at n).cursor = (s.planner.entries.at n).length → standing s n = some .complete) := by
  constructor <;> intro h <;> simp [standing, hd, ha, hr, hf, h]

/-- A node with duties outside ANNOUNCE that is released, or whose fetch is not complete, is neither. -/
theorem standing_barred {s : State} {n : Slot} (hd : s.planner.duties.at n ≠ [])
    (ha : s.epoch.state ≠ .announce)
    (h : s.epoch.released.at n = true ∨ (s.nodes.probes.at n).fetchComplete = false) :
    ¬(standing s n = some .owed ∨ standing s n = some .complete) := by
  rcases h with h | h <;> simp [standing, hd, ha, h]

theorem noneOwed_iff (s : State) : noneOwed s = true ↔ ∀ n, standing s n ≠ some .owed := by
  simp [noneOwed, allSlots]

theorem mem_readyTrials (s : State) (t : Trial) :
    t ∈ readyTrials s ↔ t ∈ heldTrials s ∧ standing s t.driver.slot = some .complete
      ∧ standing s t.receiver.slot = some .complete := by
  simp [readyTrials, isComplete]

/-! ## The run of a REPORT (R108, R109, R110) -/

theorem lanesMatch_iff (entries : List Entry) (first : Nat) (run : List RawEntry) :
    lanesMatch entries first run = true
      ↔ ∀ (i : Nat) r e, run[i]? = some r → entries[first + i]? = some e → r.lane = e.lane.val := by
  simp only [lanesMatch, List.all_eq_true, beq_iff_eq]
  constructor
  · intro h i r e h1 h2
    refine h (e, r) ?_
    rw [List.mem_iff_getElem?]
    exact ⟨i, by rw [List.getElem?_zip_eq_some]; simp [h1, h2]⟩
  · rintro h ⟨e, r⟩ hm
    rw [List.mem_iff_getElem?] at hm
    obtain ⟨i, hi⟩ := hm
    rw [List.getElem?_zip_eq_some] at hi
    simp only [List.getElem?_drop] at hi
    exact h i r e hi.2 hi.1

theorem runValues_none (run : List RawEntry) : runValues run = none ↔ ∃ r ∈ run, r.value = none := by
  induction run with
  | nil => simp [runValues]
  | cons a l ih =>
    simp only [runValues]
    rcases h : a.value with _ | v <;> rcases h2 : runValues l with _ | w <;> simp_all

theorem runValues_some (run : List RawEntry) (vs : List EntryValue) :
    runValues run = some vs ↔ run.map RawEntry.value = vs.map some := by
  induction run generalizing vs with
  | nil => cases vs <;> simp [runValues]
  | cons a l ih =>
    simp only [runValues]
    rcases h : a.value with _ | v
    · cases vs <;> simp [h]
    · rcases h2 : runValues l with _ | w
      · cases vs with
        | nil => simp
        | cons x xs =>
          simp only [List.map_cons, h, List.cons.injEq, Option.some.injEq, reduceCtorEq, false_iff, not_and]
          rintro rfl hx
          rw [← ih, h2] at hx
          exact absurd hx (by simp)
      · cases vs with
        | nil => simp
        | cons x xs =>
          have := ih w
          have hw := ih xs
          simp only [h2, Option.some.injEq] at this hw
          simp [h, ← hw]

theorem endsAtCursor_iff (entries : List Entry) (first cursor : Nat) (bytes : List Byte) :
    endsAtCursor entries first cursor bytes = true
      ↔ first < cursor ∧ ∃ run, walk entries first bytes = some run ∧ first + run.length = cursor := by
  unfold endsAtCursor
  split
  · rename_i run h; simp [h]
  · rename_i h; simp [h]

/-! ## The planner's tests (R88, R89, R90) -/

theorem apart_le (a b k : Nat) : apart a b ≤ k ↔ a ≤ b + k ∧ b ≤ a + k := by
  unfold apart; omega

theorem blocks_eq_true (y : Trial) (d r : LaneEnd) :
    blocks y d r = true ↔
      (d.slot = y.driver.slot ∧ apart d.lane y.driver.lane ≤ 1)
      ∨ (r.slot = y.receiver.slot ∧ apart r.lane y.receiver.lane ≤ 2)
      ∨ (d.slot = y.receiver.slot ∧ apart d.lane y.receiver.lane ≤ 1)
      ∨ (r.slot = y.driver.slot ∧ apart r.lane y.driver.lane ≤ 1) := by
  simp [blocks, or_assoc]

theorem fits_eq_true (snapshot : List (Slot × Nat)) (adm : List Trial) (d r : LaneEnd) :
    fits snapshot adm d r = true ↔
      (channelsIn snapshot d.slot).isSome = true
      ∧ (∃ c, channelsIn snapshot r.slot = some c
          ∧ listensAt adm r.slot + (listenSet r.lane).length ≤ c)
      ∧ adm.length < 32 ∧ drivesAt adm d.slot < 8 ∧ ∀ y ∈ adm, blocks y d r = false := by
  unfold fits
  rcases channelsIn snapshot d.slot with _ | a <;> rcases channelsIn snapshot r.slot with _ | c <;> simp
  constructor
  · rintro ⟨⟨⟨h1, h2⟩, h3⟩, h4⟩; exact ⟨h3, h1, h2, h4⟩
  · rintro ⟨h3, h1, h2, h4⟩; exact ⟨⟨⟨h1, h2⟩, h3⟩, h4⟩

end Sys2Proof.Machine
end

