-- ==== Sys2Proof/Laws/Ops.lean ====
section
/-! SUPPORT. What each shared operation can change: one frame equation per operation, and what the entries of the
campaign, a void and a plan build start leave. A frame equation says that every field it does not name is kept. -/

namespace Sys2Proof.Machine

/-! ## Lamps, findings, timebase -/

theorem showLamps_frame (s : State) :
    showLamps s = { s with campaign := { s.campaign with
      lamps := lampsFor s, blinkTimer := if s.campaign.state = .paused then s.campaign.blinkTimer else none } } := rfl

theorem present_frame (p : Presentation) (s : State) :
    present p s = { s with
      findings := (present p s).findings
      campaign := { s.campaign with
        lamps := (present p s).campaign.lamps, blinkTimer := (present p s).campaign.blinkTimer } } := by
  unfold present; split <;> rfl

theorem present_live {s : State} (p : Presentation) (h : s.campaign.state.live = true) :
    (present p s).findings = s.findings.after s.map p := by
  simp [present, h, showLamps]

theorem present_idle {s : State} (p : Presentation) (h : s.campaign.state.live = false) : present p s = s := by
  simp [present, h]

theorem presentAll_frame (ps : List Presentation) (s : State) :
    presentAll ps s = { s with
      findings := (presentAll ps s).findings
      campaign := { s.campaign with
        lamps := (presentAll ps s).campaign.lamps, blinkTimer := (presentAll ps s).campaign.blinkTimer } } := by
  induction ps generalizing s with
  | nil => rfl
  | cons p ps ih =>
    have h : presentAll (p :: ps) s = presentAll ps (present p s) := rfl
    rw [h, ih (present p s), present_frame p s]

/-- The findings a list of presentations leaves in a live campaign: each is presented in turn. -/
theorem presentAll_live {s : State} (ps : List Presentation) (h : s.campaign.state.live = true) :
    (presentAll ps s).findings = ps.foldl (fun fl p => fl.after s.map p) s.findings := by
  induction ps generalizing s with
  | nil => rfl
  | cons p ps ih =>
    have hf := present_frame p s
    have hm : (present p s).map = s.map := by rw [hf]
    have hc : (present p s).campaign.state = s.campaign.state := by rw [hf]
    have h1 : presentAll (p :: ps) s = presentAll ps (present p s) := rfl
    rw [h1, ih (by rw [hc, h]), hm, present_live p h]
    rfl

theorem presentAll_idle {s : State} (ps : List Presentation) (h : s.campaign.state.live = false) :
    presentAll ps s = s := by
  induction ps with
  | nil => rfl
  | cons p ps ih =>
    have h1 : presentAll (p :: ps) s = presentAll ps (present p s) := rfl
    rw [h1, present_idle p h, ih]

theorem applyReturn_frame (s : State) :
    applyReturn s = { s with timebase :=
      if s.timebase.returnPending then { s.timebase with source := .reference, returnPending := false }
      else s.timebase } := rfl

/-! ## The stuck wait, the idle microsecond -/

theorem Port.stuckWaits_stuck {p : Port} (h : p.line = .stuck) :
    p.stuckWaits = { p with stuckWait := some Config.stuckClearMicros } := if_pos h

@[simp] theorem Port.stuckWaits_line (p : Port) : p.stuckWaits.line = p.line := by
  unfold Port.stuckWaits; split <;> rfl

theorem Port.stuckWaits_other {p : Port} (h : p.line ≠ .stuck) : p.stuckWaits = p := if_neg h

theorem insertAt_perm (k : Nat) (c : Instr) (cs : List Instr) : (insertAt k c cs).Perm (c :: cs) := by
  induction cs generalizing k with
  | nil => cases k <;> exact .refl _
  | cons d ds ih =>
    cases k with
    | zero => exact .refl _
    | succ k => exact ((ih k).cons d).trans (.swap ..)

/-- Whatever the draws, the events placed are the events due. -/
theorem arrange_perm (draw : Nat) (cs : List Instr) : (arrange draw cs).Perm cs := by
  induction cs generalizing draw with
  | nil => exact .refl _
  | cons c cs ih => exact (insertAt_perm ..).trans ((ih _).cons c)

/-! ## Entries of the campaign -/

theorem endEpochWork_frame (s : State) :
    endEpochWork s = { s with
      planner := { Planner.afterReset with queue := s.planner.queue }
      epoch := { s.epoch with
        state := .none, timer := none, qstb := false, dstb := false, received := Table.fill 20 [] } } := rfl

theorem enterPaused_frame (s : State) :
    enterPaused s = { endEpochWork s with campaign := { s.campaign with
      state := .paused, pausePending := false, waitTimer := none
      lamps := ⟨true, false, badCondition s⟩, blinkTimer := some Config.blinkMicros } } := rfl

theorem enterWaiting_frame (s : State) :
    enterWaiting s = { endEpochWork s with
      timebase := (applyReturn s).timebase
      campaign := { s.campaign with
        state := .waiting, waitTimer := some (s.p 12 * 1000000)
        lamps := ⟨true, false, badCondition s⟩, blinkTimer := none } } := rfl

theorem enterDone_frame (s : State) :
    enterDone s = { endEpochWork s with
      timebase := (applyReturn s).timebase
      campaign := { s.campaign with
        state := .done, result := if allGood s then .good else .bad, waitTimer := none
        causes := PauseCauses.empty, pausePending := false
        lamps := ⟨false, allGood s, !allGood s⟩, blinkTimer := none } } := by
  cases h : allGood s <;>
    simp [enterDone, h, showLamps, lampsFor, applyReturn, endEpochWork, State.onCampaign, State.onTimebase,
      State.onEpoch, State.onPlanner]

/-! ## Plan builds -/

theorem startPlanBuild_frame (s : State) :
    startPlanBuild s = { s with
      epoch := { s.epoch with
        before := s.epoch.number, number := nextEpochNumber s.epoch.number, state := .planning, timer := none
        buildVoid := false, released := Table.fill 20 false, received := Table.fill 20 [] }
      timebase := (applyReturn s).timebase
      planner := { Planner.afterReset with
        queue := s.planner.queue, snapshot := activeSnapshot s.nodes.probes }
      grading := { s.grading with refSnap := s.grading.refs, thrSnap := s.campaign.params.thresholds }
      nodes := { s.nodes with
        probes := s.nodes.probes.each NodeRecord.freshEpoch, station := s.nodes.station.freshEpoch } } := rfl

/-- The snapshot holds exactly the ACTIVE probes with their channel counts (R86). -/
theorem mem_activeSnapshot (probes : Table NodeRecord 20) (n : Slot) (c : Nat) :
    (n, c) ∈ activeSnapshot probes ↔ (probes.at n).state = .active ∧ c = (probes.at n).channels.getD 0 := by
  simp only [activeSnapshot, List.mem_filterMap]
  constructor
  · rintro ⟨⟨m, r⟩, hm, h⟩
    rw [Table.mem_indexed] at hm
    subst hm
    dsimp only at h
    split at h
    · simp at h; obtain ⟨rfl, rfl⟩ := h; simp_all
    · simp at h
  · rintro ⟨h, rfl⟩
    exact ⟨(n, _), (Table.mem_indexed _ _ _).2 rfl, by simp [h]⟩

theorem giveNumberBack_frame (s : State) :
    giveNumberBack s = { s with epoch := { s.epoch with number := s.epoch.before } } := rfl

theorem returnLegs_frame (legs : List LegIx) (s : State) :
    returnLegs legs s = { s with planner := { s.planner with queue := legs ++ s.planner.queue } } := rfl

theorem vacate_frame (pick : Trial → Bool) (s : State) :
    vacate pick s = { s with planner := { s.planner with trials := (vacate pick s).planner.trials } } := rfl

theorem mem_heldTrials (s : State) (t : Trial) : t ∈ heldTrials s ↔ t ∈ s.planner.trials ∧ t.state = .held := by
  simp [heldTrials]

theorem markGraded_frame (number : Nat) (s : State) :
    markGraded number s
      = { s with planner := { s.planner with trials := (markGraded number s).planner.trials } } := rfl

/-! ## Close, void, signals -/

theorem placeRailCause_frame (s : State) :
    placeRailCause s = { s with campaign := { s.campaign with causes := { s.campaign.causes with
      rail := s.campaign.causes.rail || decide (s.p 14 ≤ s.rail.consecutive) } } } := by
  unfold placeRailCause
  split
  · simp [*, State.onCampaign]
  · rename_i h
    simp [decide_eq_false h]

theorem enterVoid_frame (cause : VoidCause) (s : State) :
    enterVoid cause s = { s with
      epoch := { s.epoch with qstb := false, dstb := false, state := .void, timer := some (s.p 5 * 1000) }
      rail := (enterVoid cause s).rail
      findings := (enterVoid cause s).findings
      campaign := { s.campaign with
        causes := (enterVoid cause s).campaign.causes, lamps := (enterVoid cause s).campaign.lamps
        blinkTimer := (enterVoid cause s).campaign.blinkTimer } } := by
  cases cause with
  | line => rfl
  | rail =>
    unfold enterVoid countVoid
    simp only [placeRailCause_frame]
    rw [present_frame]
    rfl

/-- A void with cause LINE counts a void and touches neither findings nor campaign (R142). -/
theorem enterVoid_line (s : State) :
    enterVoid .line s = { s with
      epoch := { s.epoch with qstb := false, dstb := false, state := .void, timer := some (s.p 5 * 1000) }
      rail := { s.rail with voidTotal := satInc 65535 s.rail.voidTotal } } := rfl

theorem stationChange_frame (s : State) :
    stationChange s = { s with
      campaign := (stationChange s).campaign, planner := (stationChange s).planner
      epoch := (stationChange s).epoch } := by
  unfold stationChange
  split <;> rfl

theorem lineFault_frame (s : State) :
    lineFault s = { s with
      campaign := (lineFault s).campaign, planner := (lineFault s).planner, epoch := (lineFault s).epoch
      rail := (lineFault s).rail } := by
  unfold lineFault
  split
  · split <;> rfl
  all_goals rfl

theorem transitionIntoActive_frame (s : State) :
    transitionIntoActive s = { s with
      campaign := (transitionIntoActive s).campaign, planner := (transitionIntoActive s).planner
      epoch := (transitionIntoActive s).epoch, timebase := (transitionIntoActive s).timebase
      grading := (transitionIntoActive s).grading, nodes := (transitionIntoActive s).nodes } := by
  unfold transitionIntoActive
  split <;> rfl

theorem decideAfterClose_cases (s : State) :
    (s.campaign.pausePending = true ∧ decideAfterClose s = enterPaused s)
      ∨ (s.campaign.pausePending = false ∧ s.planner.queue = [] ∧ heldTrials s = []
          ∧ decideAfterClose s = enterDone s)
      ∨ (s.campaign.pausePending = false ∧ (s.planner.queue ≠ [] ∨ heldTrials s ≠ [])
          ∧ decideAfterClose s = startPlanBuild s) := by
  unfold decideAfterClose
  split
  · exact .inl ⟨‹_›, rfl⟩
  · rename_i hp
    have hp : s.campaign.pausePending = false := by simpa using hp
    split
    · rename_i h
      simp at h
      exact .inr (.inl ⟨hp, h.1, h.2, rfl⟩)
    · rename_i h
      simp only [Bool.and_eq_true, List.isEmpty_iff, not_and_or] at h
      exact .inr (.inr ⟨hp, h, rfl⟩)

theorem decideAfterSettle_cases (s : State) :
    ((s.campaign.causes.any = true ∨ s.campaign.pausePending = true) ∧ decideAfterSettle s = enterPaused s)
      ∨ (s.campaign.causes.any = false ∧ s.campaign.pausePending = false
          ∧ decideAfterSettle s = startPlanBuild s) := by
  unfold decideAfterSettle
  split
  · rename_i h; exact .inl ⟨by simpa using h, rfl⟩
  · rename_i h; simp at h; exact .inr ⟨h.1, h.2, rfl⟩

/-- A cause is present exactly when the set is not empty. -/
theorem PauseCauses.any_iff (c : PauseCauses) : c.any = true ↔ c ≠ ⟨false, false, false⟩ := by
  rcases c with ⟨a, b, c⟩
  cases a <;> cases b <;> cases c <;> simp [PauseCauses.any]

/-! ## Misses -/

theorem takeMiss_frame (n : Slot) (s : State) :
    takeMiss n s = { s with nodes := { s.nodes with
      probes := s.nodes.probes.put n ((s.nodes.probes.at n).missed (s.p 7)) } } := rfl

theorem missAll_frame (ns : List Slot) (s : State) :
    missAll ns s = { s with nodes := { s.nodes with probes := (missAll ns s).nodes.probes } } := by
  induction ns generalizing s with
  | nil => rfl
  | cons n ns ih =>
    have h : missAll (n :: ns) s = missAll ns (takeMiss n s) := rfl
    rw [h, ih (takeMiss n s), takeMiss_frame]

/-- Each node of a list without repeats takes one miss, and no other does (R29). -/
theorem missAll_at {ns : List Slot} (h : ns.Nodup) (s : State) (m : Slot) :
    (missAll ns s).nodes.probes.at m
      = if m ∈ ns then (s.nodes.probes.at m).missed (s.p 7) else s.nodes.probes.at m := by
  induction ns generalizing s with
  | nil => rfl
  | cons n ns ih =>
    rw [List.nodup_cons] at h
    have h1 : missAll (n :: ns) s = missAll ns (takeMiss n s) := rfl
    have h2 : (takeMiss n s).p 7 = s.p 7 := rfl
    rw [h1, ih h.2, h2]
    have h3 : (takeMiss n s).nodes.probes.at m
        = if m = n then (s.nodes.probes.at n).missed (s.p 7) else s.nodes.probes.at m := by
      rw [takeMiss_frame]; exact Table.at_put ..
    rw [h3]
    by_cases hm : m = n
    · subst hm; simp [h.1]
    · simp [hm]

theorem allSlots_filter_nodup (p : Slot → Bool) : (allSlots.filter p).Nodup :=
  (List.nodup_finRange 20).filter _

theorem mem_allSlots (n : Slot) : n ∈ allSlots := List.mem_finRange n

theorem releaseNodes_frame (ns : List Slot) (s : State) :
    releaseNodes ns s = { s with epoch := { s.epoch with released := (releaseNodes ns s).epoch.released } } := rfl

theorem releaseNodes_at (ns : List Slot) (s : State) (m : Slot) :
    (releaseNodes ns s).epoch.released.at m = (decide (m ∈ ns) || s.epoch.released.at m) := by
  have key : ∀ t : Table Bool 20, (ns.foldl (fun t n => t.put n true) t).at m = (decide (m ∈ ns) || t.at m) := by
    induction ns with
    | nil => simp
    | cons n ns ih =>
      intro t
      rw [List.foldl_cons, ih, Table.at_put]
      by_cases hm : m = n <;> simp [hm]
  exact key _

/-- The withdrawal of the announce end changes the plan, the miss counts and the released marks alone (R102). -/
theorem withdraw_frame (s : State) :
    withdraw s = { s with
      planner := (withdraw s).planner
      nodes := { s.nodes with probes := (withdraw s).nodes.probes }
      epoch := { s.epoch with released := (withdraw s).epoch.released } } := by
  unfold withdraw
  simp only
  rw [releaseNodes_frame, missAll_frame]
  rfl

theorem emptyPlan_cases (s : State) :
    (s.planner.queue = [] ∧ emptyPlan s = enterDone (giveNumberBack s))
      ∨ (s.planner.queue ≠ [] ∧ s.campaign.pausePending = true ∧ emptyPlan s = enterPaused (giveNumberBack s))
      ∨ (s.planner.queue ≠ [] ∧ s.campaign.pausePending = false ∧ emptyPlan s = enterWaiting (giveNumberBack s)) := by
  unfold emptyPlan
  split
  · exact .inl ⟨by simp_all, rfl⟩
  · rename_i h
    have h : s.planner.queue ≠ [] := by simpa using h
    split
    · exact .inr (.inl ⟨h, ‹_›, rfl⟩)
    · exact .inr (.inr ⟨h, by simp_all, rfl⟩)

/-- The four ways a plan end goes on, in the order tried (R60, R92, R93). -/
theorem decidePlan_cases (s : State) :
    (s.epoch.buildVoid = true ∧ decidePlan s = enterVoid .line s)
      ∨ (s.epoch.buildVoid = false ∧ s.planner.trials = [] ∧ decidePlan s = emptyPlan s)
      ∨ (s.epoch.buildVoid = false ∧ s.planner.trials ≠ [] ∧ s.campaign.pausePending = true
          ∧ decidePlan s = pausedPlan s)
      ∨ (s.epoch.buildVoid = false ∧ s.planner.trials ≠ [] ∧ s.campaign.pausePending = false
          ∧ decidePlan s = beginAnnounce s) := by
  unfold decidePlan
  split
  · exact .inl ⟨‹_›, rfl⟩
  · rename_i h
    have h : s.epoch.buildVoid = false := by simpa using h
    split
    · exact .inr (.inl ⟨h, by simp_all, rfl⟩)
    · rename_i h2
      have h2 : s.planner.trials ≠ [] := by simpa using h2
      split
      · exact .inr (.inr (.inl ⟨h, h2, ‹_›, rfl⟩))
      · exact .inr (.inr (.inr ⟨h, h2, by simp_all, rfl⟩))

theorem makePlan_frame (s : State) : makePlan s = { s with planner := (makePlan s).planner } := rfl

/-- A plan end writes no result record. -/
theorem planEnds_results (s : State) : (planEnds s).results = s.results := by
  have h : ∀ x : State, (decidePlan x).results = x.results := by
    intro x
    rcases decidePlan_cases x with ⟨_, h⟩ | ⟨_, _, h⟩ | ⟨_, _, _, h⟩ | ⟨_, _, _, h⟩
    · rw [h]; rfl
    · rcases emptyPlan_cases x with ⟨_, h2⟩ | ⟨_, _, h2⟩ | ⟨_, _, h2⟩
      · rw [h, h2, enterDone_frame]; rfl
      · rw [h, h2]; rfl
      · rw [h, h2]; rfl
    · rw [h]; rfl
    · rw [h]; rfl
  unfold planEnds
  split
  · exact h _
  · rfl

/-! ## Gradings and the report -/

theorem settleOrRetest_frame (l : LegIx) (r : LegResult) (s : State) :
    settleOrRetest l r s = { s with
      results := (settleOrRetest l r s).results
      planner := { s.planner with queue := (settleOrRetest l r s).planner.queue }
      campaign := { s.campaign with
        lamps := (settleOrRetest l r s).campaign.lamps
        blinkTimer := (settleOrRetest l r s).campaign.blinkTimer } } := by
  unfold settleOrRetest
  split <;> rfl

theorem gradeNoReport_frame (s : State) (t : Trial) :
    gradeNoReport s t = { s with
      results := (gradeNoReport s t).results, planner := (gradeNoReport s t).planner
      campaign := { s.campaign with
        lamps := (gradeNoReport s t).campaign.lamps
        blinkTimer := (gradeNoReport s t).campaign.blinkTimer } } := by
  unfold gradeNoReport
  rw [markGraded_frame, settleOrRetest_frame]

theorem gradeTrial_frame (s : State) (t : Trial) :
    gradeTrial s t = { s with
      results := (gradeTrial s t).results, planner := (gradeTrial s t).planner
      findings := (gradeTrial s t).findings
      campaign := { s.campaign with
        lamps := (gradeTrial s t).campaign.lamps, blinkTimer := (gradeTrial s t).campaign.blinkTimer } } := by
  unfold gradeTrial
  split
  · unfold gradeWith
    simp only
    rw [markGraded_frame, settleOrRetest_frame, presentAll_frame]
  · rfl

theorem trackReference_frame (n : Slot) (s : State) :
    trackReference n s = { s with grading := { s.grading with refs := (trackReference n s).grading.refs } } := rfl

theorem clearMisses_frame (n : Slot) (s : State) :
    clearMisses n s = { s with nodes := { s.nodes with
      probes := s.nodes.probes.put n { s.nodes.probes.at n with misses := 0 } } } := rfl

theorem storeRun_frame (n : Slot) (values : List EntryValue) (s : State) :
    storeRun n values s = { s with
      epoch := { s.epoch with received := s.epoch.received.put n (s.epoch.received.at n ++ values) }
      nodes := { s.nodes with
        probes := s.nodes.probes.put n
          { s.nodes.probes.at n with cursor := (s.nodes.probes.at n).cursor + values.length } } } := rfl

/-! ## The one step: the queue is step's alone -/

/-- A command in place of the whole queue. -/
theorem step_cons (c : Instr) (rest : List Instr) (s : State) (h : s.pending = c :: rest) :
    step s = exec c { s with pending := rest } := by
  unfold step; rw [h]

theorem step_nil (s : State) (h : s.pending = []) : step s = .next (idleStep s) := by
  unfold step; rw [h]

end Sys2Proof.Machine
end

