-- ==== Sys2Proof/Laws/PerInstr.lean ====
section
/-! SUPPORT. A law of every row of the table, one lemma per constructor: a well-formed request spells a frame that the
port receives whole and takes (R3, R4, R5, R177). It is about the row as syntax, not about what exec does. -/

namespace Sys2Proof.Laws.Framed

open Sys2Proof.Machine

/-- The header, the kind byte and the payload of a row that is a request. -/
def frameOf : Instr → Option (Byte × Byte × List Byte)
  | .unknownKind h k p => some (h, k, p)
  | .enrol h p => some (h, RequestKind.enrol.byte, p)
  | .leave h p => some (h, RequestKind.leave.byte, p)
  | .status h p => some (h, RequestKind.status.byte, p)
  | .ident h p => some (h, RequestKind.ident.byte, p)
  | .arm h p => some (h, RequestKind.arm.byte, p)
  | .paramSet h p => some (h, RequestKind.paramSet.byte, p)
  | .paramGet h p => some (h, RequestKind.paramGet.byte, p)
  | .mapWrite h p => some (h, RequestKind.mapWrite.byte, p)
  | .mapRead h p => some (h, RequestKind.mapRead.byte, p)
  | .mapValidate h p => some (h, RequestKind.mapValidate.byte, p)
  | .mapBurn h p => some (h, RequestKind.mapBurn.byte, p)
  | .campaignStart h p => some (h, RequestKind.campaignStart.byte, p)
  | .campaignPause h p => some (h, RequestKind.campaignPause.byte, p)
  | .campaignResume h p => some (h, RequestKind.campaignResume.byte, p)
  | .campaignAbort h p => some (h, RequestKind.campaignAbort.byte, p)
  | .fetch h p => some (h, RequestKind.fetch.byte, p)
  | .report h p => some (h, RequestKind.report.byte, p)
  | .resultRead h p => some (h, RequestKind.resultRead.byte, p)
  | .findingRead h p => some (h, RequestKind.findingRead.byte, p)
  | .certCommit h p => some (h, RequestKind.certCommit.byte, p)
  | .certRead h p => some (h, RequestKind.certRead.byte, p)
  | .restart h p => some (h, RequestKind.restart.byte, p)
    | .startMark | .endOfData | .noiseEvent | .lineBreak | .breakEnd | .stuck | .stuckClear | .replyStart _ |
  .replyCollision | .replyComplete _ | .endOfFrame | .scanComplete | .burnComplete _ | .certWriteComplete _ |
  .presenceSeated _ | .presenceLoss _ | .planEnd | .waitExpiry | .announceEnd | .phase1End | .gapEnd |
  .phase2End | .reportDeadline | .graceEnd | .voidSettleEnd | .rsenseDeparture _ | .sagFilterExpiry |
  .refclkEdge | .clockLoss | .returnTimerExpiry | .lampBlink | .powerReset _ _ _ | .pinReset _ | .bitPulse _ _ |
  .presenceDeparture _ _ | .stuckWaitRestart | .nresetAsserted | .dominantEdgeAfterReply => none

/-- The frame of a well-formed request fits the receive buffer of 34 bytes, passes the structure tests and holds its
check byte. -/
def Statement (i : Instr) : Prop :=
  i.wellFormed = true → ∀ h k p, frameOf i = some (h, k, p) →
    (requestFrame h k p).length ≤ 34 ∧ wellStructured [] (requestFrame h k p) = true
      ∧ checkHolds (requestFrame h k p) = true

theorem requestFrame_length (h k : Byte) (p : List Byte) : (requestFrame h k p).length = p.length + 4 := by
  simp [requestFrame, frameBody]

/-- A frame whose payload fits passes every test of the port. -/
theorem frame_good (h k : Byte) (p : List Byte) (hp : p.length ≤ 30) :
    (requestFrame h k p).length ≤ 34 ∧ wellStructured [] (requestFrame h k p) = true
      ∧ checkHolds (requestFrame h k p) = true := by
  have hl := requestFrame_length h k p
  have h2 : (byteAt (requestFrame h k p) 2).toNat = p.length := by
    simp [byteAt, requestFrame, frameBody, byteOf]
    omega
  refine ⟨by omega, ?_, ?_⟩
  · simp only [wellStructured, h2, hl]
    simp [hp]
  · simp [checkHolds, byteAt, requestFrame]

/-- A row that is no request. -/
theorem of_none {i : Instr} (h : frameOf i = none) : Statement i := by
  intro _ a b c hc
  rw [h] at hc
  exact absurd hc (by simp)

/-- A request whose well-formedness is that its payload fits. -/
theorem of_fits {i : Instr} {h k : Byte} {p : List Byte} (hf : frameOf i = some (h, k, p))
    (hp : i.wellFormed = true → p.length ≤ 30) : Statement i := by
  intro hw a b c hc
  rw [hf] at hc
  simp only [Option.some.injEq, Prod.mk.injEq] at hc
  obtain ⟨rfl, rfl, rfl⟩ := hc
  exact frame_good _ _ _ (hp hw)

theorem startMark : Statement .startMark := of_none rfl
theorem endOfData : Statement .endOfData := of_none rfl
theorem noiseEvent : Statement .noiseEvent := of_none rfl
theorem lineBreak : Statement .lineBreak := of_none rfl
theorem breakEnd : Statement .breakEnd := of_none rfl
theorem stuck : Statement .stuck := of_none rfl
theorem stuckClear : Statement .stuckClear := of_none rfl
theorem replyStart (dominant : Bool) : Statement (.replyStart dominant) := of_none rfl
theorem replyCollision : Statement .replyCollision := of_none rfl
theorem replyComplete (dominant : Bool) : Statement (.replyComplete dominant) := of_none rfl
theorem endOfFrame : Statement .endOfFrame := of_none rfl
theorem unknownKind (header kind : Byte) (payload : List Byte) : Statement (.unknownKind header kind payload) := by
  refine of_fits rfl fun h => ?_
  simp only [Instr.wellFormed, payloadFits, Bool.and_eq_true, decide_eq_true_eq] at h
  exact h.1
theorem enrol (header : Byte) (payload : List Byte) : Statement (.enrol header payload) :=
  of_fits rfl (by simp [Instr.wellFormed, payloadFits])
theorem leave (header : Byte) (payload : List Byte) : Statement (.leave header payload) :=
  of_fits rfl (by simp [Instr.wellFormed, payloadFits])
theorem status (header : Byte) (payload : List Byte) : Statement (.status header payload) :=
  of_fits rfl (by simp [Instr.wellFormed, payloadFits])
theorem ident (header : Byte) (payload : List Byte) : Statement (.ident header payload) :=
  of_fits rfl (by simp [Instr.wellFormed, payloadFits])
theorem arm (header : Byte) (payload : List Byte) : Statement (.arm header payload) :=
  of_fits rfl (by simp [Instr.wellFormed, payloadFits])
theorem paramSet (header : Byte) (payload : List Byte) : Statement (.paramSet header payload) :=
  of_fits rfl (by simp [Instr.wellFormed, payloadFits])
theorem paramGet (header : Byte) (payload : List Byte) : Statement (.paramGet header payload) :=
  of_fits rfl (by simp [Instr.wellFormed, payloadFits])
theorem mapWrite (header : Byte) (payload : List Byte) : Statement (.mapWrite header payload) :=
  of_fits rfl (by simp [Instr.wellFormed, payloadFits])
theorem mapRead (header : Byte) (payload : List Byte) : Statement (.mapRead header payload) :=
  of_fits rfl (by simp [Instr.wellFormed, payloadFits])
theorem mapValidate (header : Byte) (payload : List Byte) : Statement (.mapValidate header payload) :=
  of_fits rfl (by simp [Instr.wellFormed, payloadFits])
theorem scanComplete : Statement .scanComplete := of_none rfl
theorem mapBurn (header : Byte) (payload : List Byte) : Statement (.mapBurn header payload) :=
  of_fits rfl (by simp [Instr.wellFormed, payloadFits])
theorem burnComplete (flaws : List (Nat × Byte)) : Statement (.burnComplete flaws) := of_none rfl
theorem certCommit (header : Byte) (payload : List Byte) : Statement (.certCommit header payload) :=
  of_fits rfl (by simp [Instr.wellFormed, payloadFits])
theorem certWriteComplete (flaws : List (Nat × Byte)) : Statement (.certWriteComplete flaws) := of_none rfl
theorem certRead (header : Byte) (payload : List Byte) : Statement (.certRead header payload) :=
  of_fits rfl (by simp [Instr.wellFormed, payloadFits])
theorem campaignStart (header : Byte) (payload : List Byte) : Statement (.campaignStart header payload) :=
  of_fits rfl (by simp [Instr.wellFormed, payloadFits])
theorem campaignPause (header : Byte) (payload : List Byte) : Statement (.campaignPause header payload) :=
  of_fits rfl (by simp [Instr.wellFormed, payloadFits])
theorem campaignResume (header : Byte) (payload : List Byte) : Statement (.campaignResume header payload) :=
  of_fits rfl (by simp [Instr.wellFormed, payloadFits])
theorem campaignAbort (header : Byte) (payload : List Byte) : Statement (.campaignAbort header payload) :=
  of_fits rfl (by simp [Instr.wellFormed, payloadFits])
theorem restart (header : Byte) (payload : List Byte) : Statement (.restart header payload) :=
  of_fits rfl (by simp [Instr.wellFormed, payloadFits])
theorem fetch (header : Byte) (payload : List Byte) : Statement (.fetch header payload) :=
  of_fits rfl (by simp [Instr.wellFormed, payloadFits])
theorem report (header : Byte) (payload : List Byte) : Statement (.report header payload) :=
  of_fits rfl (by simp [Instr.wellFormed, payloadFits])
theorem resultRead (header : Byte) (payload : List Byte) : Statement (.resultRead header payload) :=
  of_fits rfl (by simp [Instr.wellFormed, payloadFits])
theorem findingRead (header : Byte) (payload : List Byte) : Statement (.findingRead header payload) :=
  of_fits rfl (by simp [Instr.wellFormed, payloadFits])
theorem presenceSeated (slot : Slot) : Statement (.presenceSeated slot) := of_none rfl
theorem presenceLoss (slot : Slot) : Statement (.presenceLoss slot) := of_none rfl
theorem planEnd : Statement .planEnd := of_none rfl
theorem waitExpiry : Statement .waitExpiry := of_none rfl
theorem announceEnd : Statement .announceEnd := of_none rfl
theorem phase1End : Statement .phase1End := of_none rfl
theorem gapEnd : Statement .gapEnd := of_none rfl
theorem phase2End : Statement .phase2End := of_none rfl
theorem reportDeadline : Statement .reportDeadline := of_none rfl
theorem graceEnd : Statement .graceEnd := of_none rfl
theorem voidSettleEnd : Statement .voidSettleEnd := of_none rfl
theorem rsenseDeparture (below : Bool) : Statement (.rsenseDeparture below) := of_none rfl
theorem sagFilterExpiry : Statement .sagFilterExpiry := of_none rfl
theorem refclkEdge : Statement .refclkEdge := of_none rfl
theorem clockLoss : Statement .clockLoss := of_none rfl
theorem returnTimerExpiry : Statement .returnTimerExpiry := of_none rfl
theorem lampBlink : Statement .lampBlink := of_none rfl
theorem powerReset (slDominant nresetLow : Bool) (decay : List NvDecay) :
    Statement (.powerReset slDominant nresetLow decay) := of_none rfl
theorem pinReset (slDominant : Bool) : Statement (.pinReset slDominant) := of_none rfl
theorem bitPulse (width spacing : Nat) : Statement (.bitPulse width spacing) := of_none rfl
theorem presenceDeparture (slot : Slot) (low : Bool) : Statement (.presenceDeparture slot low) := of_none rfl
theorem stuckWaitRestart : Statement .stuckWaitRestart := of_none rfl
theorem nresetAsserted : Statement .nresetAsserted := of_none rfl
theorem dominantEdgeAfterReply : Statement .dominantEdgeAfterReply := of_none rfl

end Sys2Proof.Laws.Framed
end

