-- ==== Sys2Proof/Laws/Requests.lean ====
section
/-! SUPPORT. What taking a request does, said once: the frame heard, the tests in order, the owner, the reply. -/

namespace Sys2Proof.Machine

/-! ## Commands outside a reset in progress -/

theorem unlessHeld_of_none {f : State → State} {s : State} (h : s.held = none) : unlessHeld f s = f s := by
  simp [unlessHeld, h]

theorem unlessHeld_of_some {f : State → State} {s : State} (h : s.held ≠ none) : unlessHeld f s = s := by
  simp [unlessHeld, Option.isSome_iff_ne_none, h]

/-- Every request row is its kind's frame, delivered. -/
theorem exec_requestRow (k : RequestKind) (header : Byte) (payload : List Byte) (s : State) :
    exec (requestRow k header payload) s = .next (unlessHeld (deliver header k.byte payload) s) := by
  cases k <;> rfl

theorem exec_unknownKind (header kind : Byte) (payload : List Byte) (s : State) :
    exec (.unknownKind header kind payload) s = .next (unlessHeld (deliver header kind payload) s) := rfl

/-! ## The frame heard and the reply placed -/

theorem presentToArm_holdFrame (header kind : Byte) (payload : List Byte) (s : State) :
    presentToArm (s.onPort fun p => p.holdFrame (requestFrame header kind payload))
      = heard header kind payload s := rfl

theorem reply_eq_replied (header : Byte) (t : State) (a : Answer) : reply header (t, a) = replied header a t := by
  simp only [reply, restartSilence, replied]
  split <;> rfl

@[simp] theorem ofByte_byte (k : RequestKind) : RequestKind.ofByte k.byte = some k := by cases k <;> rfl

/-- A request that fits: decided on the state that heard it, and answered. -/
theorem deliver_fits {payload : List Byte} (h : payload.length ≤ 30) (header kind : Byte) (s : State) :
    deliver header kind payload s
      = reply header (decideRequest header kind (marksArmed s.port.arm header kind) payload
          (heard header kind payload s)) := by
  rw [deliver, if_pos h, takeRequest, presentToArm_holdFrame]
  rfl

/-- A frame whose length field is above 30 is a framing error (R4). -/
theorem deliver_long {payload : List Byte} (h : 30 < payload.length) (header kind : Byte) (s : State) :
    deliver header kind payload s = s.onPort Port.framingError := by
  rw [deliver, if_neg (by omega)]

/-! ## Senders (R12, R177) -/

theorem senderOf_station {header : Byte} (h : addressOf header = 31) : senderOf header = some .station := by
  simp [senderOf, h]

theorem senderOf_probe {header : Byte} (n : Slot) (h : addressOf header = n.val) :
    senderOf header = some (.probe n) := by
  have := n.isLt
  simp [senderOf, h]

theorem senderOf_stranger {header : Byte} (h : 20 ≤ addressOf header) (h' : addressOf header ≤ 30) :
    senderOf header = none := by
  rw [senderOf, dif_neg (by omega), if_neg (by omega)]

theorem addressOf_of_probe {header : Byte} {n : Slot} (h : senderOf header = some (.probe n)) :
    addressOf header = n.val := by
  unfold senderOf at h
  split at h
  · simp at h; rw [← h]
  · split at h <;> simp at h

theorem addressOf_of_station {header : Byte} (h : senderOf header = some .station) : addressOf header = 31 := by
  unfold senderOf at h
  split at h
  · simp at h
  · split at h
    · assumption
    · simp at h

/-! ## Taking by kind -/

/-- A request row from a sender with a node record: the acceptance tests, the owner, the reply. -/
theorem exec_request {k : RequestKind} {header : Byte} {payload : List Byte} {s : State} {who : Sender}
    (hs : s.held = none) (hp : payload.length ≤ 30) (hw : senderOf header = some who) :
    exec (requestRow k header payload) s
      = .next (reply header (passOn k who (marksArmed s.port.arm header k.byte) payload
          (heard header k.byte payload s))) := by
  rw [exec_requestRow, unlessHeld_of_none hs, deliver_fits hp]
  simp [decideRequest, hw]

/-- A request that the acceptance tests refuse (R30). -/
theorem exec_request_refused {k : RequestKind} {header : Byte} {payload : List Byte} {s : State} {who : Sender}
    {code : ReplyCode} (hs : s.held = none) (hp : payload.length ≤ 30) (hw : senderOf header = some who)
    (hc : acceptance k who (marksArmed s.port.arm header k.byte) s.nodes = some code) :
    exec (requestRow k header payload) s = .next (refusedWith k header payload code s) := by
  rw [exec_request hs hp hw]
  have : (heard header k.byte payload s).nodes = s.nodes := rfl
  simp [passOn, this, hc, reply_eq_replied, refusedWith]

/-- A request that passes the acceptance tests is answered by its owner (R12, step 5). -/
theorem exec_request_owned {k : RequestKind} {header : Byte} {payload : List Byte} {s : State} {who : Sender}
    (hs : s.held = none) (hp : payload.length ≤ 30) (hw : senderOf header = some who)
    (hc : acceptance k who (marksArmed s.port.arm header k.byte) s.nodes = none) :
    exec (requestRow k header payload) s
      = .next (replied header (ownerAnswers k who payload (heard header k.byte payload s)).2
          (ownerAnswers k who payload (heard header k.byte payload s)).1) := by
  rw [exec_request hs hp hw]
  have : (heard header k.byte payload s).nodes = s.nodes := rfl
  simp [passOn, this, hc, ← reply_eq_replied]

/-! ## Who passes the acceptance tests (R30) -/

/-- The ACTIVE station passes for every kind but FETCH, REPORT and the protected ones. -/
theorem acceptance_station {k : RequestKind} {armed : Bool} {nt : NodeTable} (h : nt.station.state = .active)
    (hf : k ≠ .fetch) (hr : k ≠ .report) (hk : isProtected k = true → armed = true) :
    acceptance k .station armed nt = none := by
  cases k <;> simp_all [acceptance, openToAll, permits, NodeTable.enrolled, isProtected]

/-- An ACTIVE probe passes for its six kinds. -/
theorem acceptance_probe {k : RequestKind} {n : Slot} {armed : Bool} {nt : NodeTable}
    (h : (nt.probes.at n).state = .active) (hk : permits (.probe n) k = true) :
    acceptance k (.probe n) armed nt = none := by
  cases k <;>
    simp_all [acceptance, openToAll, permits, NodeTable.enrolled, NodeTable.record, isProtected]

/-- ENROL, STATUS and IDENT pass from any address with a record. -/
theorem acceptance_open {k : RequestKind} {who : Sender} {armed : Bool} {nt : NodeTable} (h : openToAll k = true) :
    acceptance k who armed nt = none := by
  cases k <;> cases who <;> simp_all [acceptance, openToAll, permits, isProtected]

/-- An enrolled probe passes for LEAVE, ACTIVE or LAPSED. -/
theorem acceptance_leave {n : Slot} {armed : Bool} {nt : NodeTable} (h : (nt.probes.at n).state ≠ .absent) :
    acceptance .leave (.probe n) armed nt = none := by
  simp [acceptance, openToAll, permits, NodeTable.enrolled, isProtected, h]

/-- The arm marks the next frame from address 31 of the armed kind, and no other (R31). -/
theorem marksArmed_iff (arm : Option ArmKind) (header kind : Byte) :
    marksArmed arm header kind = true ↔ addressOf header = 31 ∧ arm.map ArmKind.byte = some kind := by
  cases arm with
  | none => simp [marksArmed]
  | some a => simp [marksArmed, @eq_comm _ kind]

/-- A request of the ACTIVE station that needs no arm, or has it, is answered by its owner. -/
theorem exec_station {k : RequestKind} {header : Byte} {payload : List Byte} {s : State} (h : stationMay header s)
    (hp : payload.length ≤ 30) (hf : k ≠ .fetch) (hr : k ≠ .report)
    (hk : isProtected k = true → s.port.arm.map ArmKind.byte = some k.byte) :
    exec (requestRow k header payload) s
      = .next (replied header (ownerAnswers k .station payload (heard header k.byte payload s)).2
          (ownerAnswers k .station payload (heard header k.byte payload s)).1) :=
  exec_request_owned h.1 hp (senderOf_station h.2.1)
    (acceptance_station h.2.2 hf hr fun hp => (marksArmed_iff _ _ _).2 ⟨h.2.1, hk hp⟩)

/-- A request of an ACTIVE probe of a kind its role permits is answered by its owner. -/
theorem exec_probe {k : RequestKind} {n : Slot} {header : Byte} {payload : List Byte} {s : State}
    (h : probeMay n header s) (hp : payload.length ≤ 30) (hk : permits (.probe n) k = true) :
    exec (requestRow k header payload) s
      = .next (replied header (ownerAnswers k (.probe n) payload (heard header k.byte payload s)).2
          (ownerAnswers k (.probe n) payload (heard header k.byte payload s)).1) :=
  exec_request_owned h.1 hp (senderOf_probe n h.2.1) (acceptance_probe h.2.2 hk)

/-! ## The fields of a state that heard a request and of one that answered -/

section
variable (header kind : Byte) (payload : List Byte) (a : Answer) (s : State)

@[simp] theorem heard_nodes : (heard header kind payload s).nodes = s.nodes := rfl
@[simp] theorem heard_map : (heard header kind payload s).map = s.map := rfl
@[simp] theorem heard_campaign : (heard header kind payload s).campaign = s.campaign := rfl
@[simp] theorem heard_planner : (heard header kind payload s).planner = s.planner := rfl
@[simp] theorem heard_epoch : (heard header kind payload s).epoch = s.epoch := rfl
@[simp] theorem heard_grading : (heard header kind payload s).grading = s.grading := rfl
@[simp] theorem heard_results : (heard header kind payload s).results = s.results := rfl
@[simp] theorem heard_findings : (heard header kind payload s).findings = s.findings := rfl
@[simp] theorem heard_rail : (heard header kind payload s).rail = s.rail := rfl
@[simp] theorem heard_timebase : (heard header kind payload s).timebase = s.timebase := rfl
@[simp] theorem heard_nv : (heard header kind payload s).nv = s.nv := rfl
@[simp] theorem heard_held : (heard header kind payload s).held = s.held := rfl
@[simp] theorem heard_freeDraws : (heard header kind payload s).freeDraws = s.freeDraws := rfl
@[simp] theorem heard_pending : (heard header kind payload s).pending = s.pending := rfl
@[simp] theorem heard_line : (heard header kind payload s).port.line = s.port.line := rfl
@[simp] theorem heard_p (i : Fin 16) : (heard header kind payload s).p i = s.p i := rfl

@[simp] theorem replied_map : (replied header a s).map = s.map := rfl
@[simp] theorem replied_campaign : (replied header a s).campaign = s.campaign := rfl
@[simp] theorem replied_planner : (replied header a s).planner = s.planner := rfl
@[simp] theorem replied_epoch : (replied header a s).epoch = s.epoch := rfl
@[simp] theorem replied_grading : (replied header a s).grading = s.grading := rfl
@[simp] theorem replied_results : (replied header a s).results = s.results := rfl
@[simp] theorem replied_findings : (replied header a s).findings = s.findings := rfl
@[simp] theorem replied_rail : (replied header a s).rail = s.rail := rfl
@[simp] theorem replied_timebase : (replied header a s).timebase = s.timebase := rfl
@[simp] theorem replied_nv : (replied header a s).nv = s.nv := rfl
@[simp] theorem replied_held : (replied header a s).held = s.held := rfl
@[simp] theorem replied_freeDraws : (replied header a s).freeDraws = s.freeDraws := rfl
@[simp] theorem replied_pending : (replied header a s).pending = s.pending := rfl
@[simp] theorem replied_reply : (replied header a s).port.reply = a.bytes := rfl

/-- A reply changes no node record, no holder and no presence filter. -/
theorem replied_nodes :
    (replied header a s).nodes.probes = s.nodes.probes ∧ (replied header a s).nodes.station = s.nodes.station
      ∧ (replied header a s).nodes.holder = s.nodes.holder
      ∧ (replied header a s).nodes.presence = s.nodes.presence := by
  unfold replied; split <;> simp

/-- The silence timer is at 0 after a request from address 31 but for STATION_HELD, and as it was otherwise (R26). -/
theorem replied_silence :
    (replied header a s).nodes.silence
      = if addressOf header = 31 ∧ a.code ≠ .stationHeld then 0 else s.nodes.silence := by
  unfold replied; split <;> simp_all
end

end Sys2Proof.Machine
end

