-- ==== Sys2Proof/Laws/Store.lean ====
section
/-! SUPPORT. The nonvolatile store, the parameters and the campaign states: the tests of their requests, each said
once. -/

namespace Sys2Proof.Machine

/-! ## The store -/

/-- IDLE, DONE and ABORTED are the states that are not RUNNING, WAITING or PAUSED (R57). -/
theorem settled_iff_not_live (c : CampaignState) : c.settled = true ↔ c.live = false := by
  cases c <;> simp [CampaignState.settled, CampaignState.live]

theorem isFree_iff (x : NvSlot) : x.isFree = true ↔ x.begun = false ∧ x.done = false := by
  simp [NvSlot.isFree]

theorem isDone_iff (x : NvSlot) : x.isDone = true ↔ x.begun = true ∧ x.done = true := by
  simp [NvSlot.isDone]

theorem lowestFree_none {t : Table NvSlot 4} (h : ∀ n, (t.at n).isFree = false) : lowestFree t = none := by
  simp [lowestFree, nvSlots, h]

/-- The lowest-numbered FREE slot is the one below which none is FREE (R164). -/
theorem lowestFree_some {t : Table NvSlot 4} {n : NvIx} (h : (t.at n).isFree = true)
    (hm : ∀ m < n, (t.at m).isFree = false) : lowestFree t = some n := by
  have h0 := hm 0
  have h1 := hm 1
  have h2 := hm 2
  fin_cases n <;> simp_all [lowestFree, nvSlots]

/-- A write that reads back as written into an intact body verifies, and one that does not, does not (R169). -/
theorem verifies_eq (flaws : List (Nat × Byte)) (bytes : List Byte) :
    verifies flaws bytes = (decide (readBack flaws bytes = bytes) && intact bytes) := by
  unfold verifies
  by_cases h : readBack flaws bytes = bytes <;> simp [h]

/-- A decay changes stored bytes alone: no mark is ever cleared or set by it (R164, log entry 12). -/
theorem decayed_marks (nv : NvStore) (d : NvDecay) (n : NvIx) :
    ((nv.decayed d).gens.at n).begun = (nv.gens.at n).begun
      ∧ ((nv.decayed d).gens.at n).done = (nv.gens.at n).done
      ∧ ((nv.decayed d).certs.at n).begun = (nv.certs.at n).begun
      ∧ ((nv.decayed d).certs.at n).done = (nv.certs.at n).done := by
  unfold NvStore.decayed
  split <;> simp [Table.at_change] <;> split <;> simp_all

theorem decayed_frame (nv : NvStore) (d : NvDecay) :
    nv.decayed d = { nv with gens := (nv.decayed d).gens, certs := (nv.decayed d).certs } := by
  unfold NvStore.decayed
  split <;> rfl

/-! ## The occupancy table -/

theorem LaneEnd.index_injective {e f : LaneEnd} (h : e.index = f.index) : e = f := by
  obtain ⟨a, b⟩ := e
  obtain ⟨c, d⟩ := f
  simp only [LaneEnd.index, Fin.mk.injEq] at h
  have := b.isLt
  have := d.isLt
  congr 1 <;> apply Fin.ext <;> omega

/-- Entering a record's ends: they hold its index, and every other lane end is as it was. -/
theorem enterEnds_at (occ : Table (Option LinkIx) 960) (kr : LinkIx × LinkRecord) (e : LaneEnd) :
    (enterEnds occ kr).at e.index
      = if kr.2.inUse = true ∧ (kr.2.endA = e ∨ kr.2.endB = e) then some kr.1 else occ.at e.index := by
  have hi : ∀ f : LaneEnd, e.index = f.index ↔ f = e :=
    fun f => ⟨fun h => (LaneEnd.index_injective h).symm, fun h => h ▸ rfl⟩
  unfold enterEnds
  by_cases hu : kr.2.inUse = true
  · by_cases hb : kr.2.endB = e <;> by_cases ha : kr.2.endA = e <;> simp [hu, Table.at_put, hi, ha, hb]
  · simp [hu]

/-- After entering a list of records, a lane end holds the index of one of them that names it, or what it held
where none does. -/
theorem foldl_enterEnds (krs : List (LinkIx × LinkRecord)) (occ : Table (Option LinkIx) 960) (e : LaneEnd) :
    let named := fun kr : LinkIx × LinkRecord => kr.2.inUse = true ∧ (kr.2.endA = e ∨ kr.2.endB = e)
    (∃ kr ∈ krs, named kr ∧ (krs.foldl enterEnds occ).at e.index = some kr.1)
      ∨ ((∀ kr ∈ krs, ¬named kr) ∧ (krs.foldl enterEnds occ).at e.index = occ.at e.index) := by
  intro named
  induction krs generalizing occ with
  | nil => exact .inr ⟨by simp, rfl⟩
  | cons kr krs ih =>
    rcases ih (enterEnds occ kr) with ⟨k, hk, hn, he⟩ | ⟨hn, he⟩
    · exact .inl ⟨k, List.mem_cons_of_mem _ hk, hn, he⟩
    · rw [enterEnds_at] at he
      by_cases h : named kr
      · exact .inl ⟨kr, List.mem_cons_self .., h, by rw [List.foldl_cons, he, if_pos h]⟩
      · refine .inr ⟨?_, by rw [List.foldl_cons, he, if_neg h]⟩
        intro k hk
        rcases List.mem_cons.1 hk with rfl | hk
        · exact h
        · exact hn k hk

/-! ## Parameters -/

theorem paramOf_none_iff (n : Nat) : paramOf n = none ↔ ¬(1 ≤ n ∧ n ≤ 16) ∧ ¬(32 ≤ n ∧ n ≤ 47) := by
  unfold paramOf
  split_ifs <;> simp_all

theorem paramOf_general {n : Nat} {i : Fin 16} (h : n = i.val + 1) : paramOf n = some (.general i) := by
  have := i.isLt
  unfold paramOf
  rw [dif_pos (by omega)]
  simp only [Option.some.injEq, ParamRef.general.injEq]
  ext; simp; omega

theorem paramOf_threshold {n : Nat} {c f : Fin 4} (h : n = 32 + 4 * c.val + f.val) :
    paramOf n = some (.threshold c f) := by
  have := c.isLt
  have := f.isLt
  unfold paramOf
  rw [dif_neg (by omega), dif_pos (by omega)]
  simp only [Option.some.injEq, ParamRef.threshold.injEq]
  constructor <;> ext <;> simp <;> omega

theorem paramBarred_iff (s : State) (n : Nat) :
    paramBarred s n = true ↔ s.campaign.state = .running ∨ s.campaign.state = .waiting
      ∨ (s.campaign.state = .paused ∧ n = 7) := by
  simp [paramBarred, or_assoc]

end Sys2Proof.Machine
end

