-- ==== Sys2Proof/Tests/Slice0.lean ====
section
/-! SUPPORT. The block's own tests: ill-formed terms, the spec's worked examples, and for every statement with
hypotheses a concrete state that meets them. Each expected value stands in spec/, in the file the comment names. -/

namespace Sys2Proof.Tests

open Sys2Proof Sys2Proof.Machine

set_option Elab.async false

/-! ## Helpers: small states and one step -/

/-- A field of the state after one command; none if the command stopped. -/
def got (o : Host.Outcome State Fault Refusal) (f : State → α) : Option α :=
  match o with
  | .next t => some (f t)
  | .fault _ | .refused _ => none

/-- Numbers as bytes. -/
def bytes (ns : List Nat) : List Byte := ns.map byteOf

/-- A lane end. -/
def laneEnd (slot : Slot) (lane : Lane) : LaneEnd := ⟨slot, lane⟩

def base : State := State.reset

def lineAt (l : LineState) (s : State) : State := s.onPort fun p => { p with line := l }

def replyAt (ph : ReplyPhase) (s : State) : State := s.onPort fun p => { p with line := .replying, replyPhase := ph }

def armedFor (a : ArmKind) (s : State) : State := s.onPort fun p => { p with arm := some a }

def heldBy (k : ResetKind) (s : State) : State := { s with held := some k }

/-- The station ACTIVE with identity 500. -/
def staffed (s : State) : State :=
  s.onNodes fun n => { n with station := { n.station with state := .active }, holder := some 500 }

/-- Slot n seated, its probe ACTIVE. -/
def probed (n : Slot) (channels : Nat) (s : State) : State :=
  s.onNodes fun nt =>
    { nt with
      presence := nt.presence.put n ⟨true, true, none⟩
      probes := nt.probes.put n { nt.probes.at n with state := .active, channels := some channels } }

def fetched (n : Slot) (s : State) : State :=
  s.onNodes fun nt => { nt with probes := nt.probes.put n { nt.probes.at n with fetchComplete := true } }

def campaignAt (c : CampaignState) (s : State) : State := s.onCampaign fun x => { x with state := c }

def epochAt (number : Nat) (e : EpochState) (s : State) : State :=
  campaignAt .running (s.onEpoch fun x => { x with number := number, state := e })

def pausing (s : State) : State := s.onCampaign fun c => { c with pausePending := true }

/-- The four links of the commissioning run (spec/12, Generation 1). -/
def fourLinks : Table LinkRecord 480 :=
  ((((Table.fill 480 LinkRecord.unused).put 0 ⟨true, ⟨0, 10⟩, ⟨1, 10⟩, 1, .both⟩).put 1
    ⟨true, ⟨2, 5⟩, ⟨3, 5⟩, 1, .ab⟩).put 2 ⟨true, ⟨0, 20⟩, ⟨2, 20⟩, 1, .ab⟩).put 3 ⟨true, ⟨1, 30⟩, ⟨3, 30⟩, 1, .ab⟩

/-- The working map of the commissioning run. -/
def mapped (s : State) : State := { s with map := MapStore.loaded 0 fourLinks }

/-- The chassis of the commissioning run after power-up and enrolment (spec/12, 12.1). -/
def chassis : State := staffed (probed 3 3 (probed 2 6 (probed 1 6 (probed 0 6 (mapped base)))))

/-- The chassis in the plan build of epoch 1 (spec/12, 12.2). -/
def building : State := startCampaign chassis

/-- The chassis in ANNOUNCE of epoch 1. -/
def announced : State := planEnds building

/-- Slots 0, 1 and 2 have fetched; slot 3 has not. -/
def threeFetched : State := fetched 2 (fetched 1 (fetched 0 announced))

/-- COLLECTING of epoch 1. -/
def collecting : State := beginCollecting (strobesLow (beginPhase1 (withdraw threeFetched)))

def stationHeader : Byte := 31#8

/-! ## Ill-formed commands, each refused by its check -/

theorem test_payload_above_30_refused : (Instr.status 31#8 (List.replicate 31 0#8)).wellFormed = false := by decide
theorem test_payload_of_30_passes : (Instr.status 31#8 (List.replicate 30 0#8)).wellFormed = true := by decide
theorem test_known_kind_is_not_unknown : (Instr.unknownKind 31#8 0x40#8 []).wellFormed = false := by decide
theorem test_burn_flaw_beyond_body_refused : (Instr.burnComplete [(2403, 0#8)]).wellFormed = false := by decide
theorem test_cert_flaw_beyond_body_refused : (Instr.certWriteComplete [(43, 0#8)]).wellFormed = false := by decide
theorem test_bit_pulse_of_1us_refused : (Instr.bitPulse 1 10).wellFormed = false := by decide
theorem test_bit_pulse_of_30us_refused : (Instr.bitPulse 30 10).wellFormed = false := by decide
theorem test_decay_beyond_body_refused :
    (Instr.powerReset false false [⟨true, 0, 43, 0#8⟩]).wellFormed = false := by decide
theorem test_no_row_gives_bits : decodeTableWord 16 0x1234 = none := rfl

/-! ## Layers without a state -/

/-- spec/01, Check byte example. -/
theorem test_check_byte_of_header : crc8 (bytes [0x1F]) = 0x76#8 := by decide
theorem test_check_byte_of_fragment : crc8 (bytes [0x1F, 0x00]) = 0xD9#8 := by decide +kernel
theorem test_check_byte_of_zero : crc8 (bytes [0x00]) = 0x42#8 := by decide
/-- spec/10, Check value example. -/
theorem test_check_value_of_zero : withCheck (bytes [0x00]) = bytes [0x00, 0xE1, 0xF0] := by decide
/-- spec/05, the examples of R96. -/
theorem test_seed_zero_replaced : patternSeed 64 0 = 1 := by decide
theorem test_seed_of_last_leg : patternSeed 65535 959 = 65471 := by decide
/-- spec/02, R12: address 31 in the low five bits, priority above them. -/
theorem test_header_fields : addressOf 0xBF#8 = 31 ∧ priorityOf 0xBF#8 = 5 := by decide
/-- spec/01, R2: the boundaries of the table. -/
theorem test_pulse_classes :
    [0, 1, 2, 4, 5, 9, 10, 29, 30, 299, 300].map classify
      = [.unseen, .noise, .bit true, .bit true, .bit false, .bit false, .badSymbol, .badSymbol, .startMark,
         .startMark, .long] := by decide
/-- spec/07, R120, with the samples of spec/12, 12.2. -/
theorem test_reference_track : [60, 62, 58].foldl (trackSample 8 32) 16384 = 16038 := by decide
theorem test_reference_track_late : [55, 57, 56].foldl (trackSample 8 32) 16384 = 15712 := by decide
/-- spec/12, Generation 1: legs 0, 1, 2, 4 and 6. -/
theorem test_leg_list : (mapped base).map.legList.map (·.val) = [0, 1, 2, 4, 6] := by decide +kernel
/-- spec/12, 12.1: (2,20) holds link 2 and (3,6) is FREE. -/
theorem test_occupancy :
    (mapped base).map.occupancy.at (laneEnd 2 20).index = some 2
      ∧ (mapped base).map.occupancy.at (laneEnd 3 6).index = none := by decide +kernel

/-! ## Line events -/

theorem test_start_mark : got (exec .startMark base) (·.port.line) = some .receiving := by decide +kernel
theorem test_eighth_bit_completes_byte :
    got (exec (.bitPulse 3 10)
      (lineAt .receiving (base.onPort fun p => { p with rxBits := [true, false, false, false, false, false, false] })))
      (fun t => (t.port.rxBytes, t.port.rxBits)) = some ([0x81#8], []) := by decide +kernel
theorem test_bit_too_early :
    got (exec (.bitPulse 3 8) (lineAt .receiving (base.onPort fun p => { p with rxBits := [true] })))
      (fun t => (t.port.line, t.port.framingErrors)) = some (.idle, 1) := by decide +kernel
theorem test_noise_discards :
    got (exec .noiseEvent (lineAt .receiving base)) (fun t => (t.port.line, t.port.noiseEvents)) = some (.idle, 1) := by
  decide +kernel
theorem test_break_clears_arm :
    got (exec .lineBreak (armedFor .restart base)) (fun t => (t.port.line, t.port.arm)) = some (.broken, none) := by
  decide +kernel
theorem test_stuck_counts_and_voids :
    got (exec .stuck (lineAt .broken collecting))
      (fun t => (t.port.lineFaults, t.epoch.state, t.campaign.causes.line, t.findings.list.length, t.rail.voidTotal))
      = some (1, .void, true, 1, 1) := by decide +kernel
/-- spec/01, R11: a level that lasts in STUCK stops the wait, and it runs again from the return to recessive. -/
theorem test_stuck_wait_interrupted :
    (∀ c ∈ [Instr.lineBreak, .stuck],
        got (exec c ((lineAt .stuck base).onPort fun p => { p with stuckWait := some 7 }))
          (fun t => (t.port.stuckWait, eventsNow t)) = some (none, []))
      ∧ got (exec .breakEnd (lineAt .stuck base)) (fun t => (t.port.stuckWait, t.port.breaks)) = some (some 1000, 0) := by
  decide +kernel
/-- spec/01, R11: a pulse that begins when the wait has 1 us left interrupts it: nothing clears the line. -/
theorem test_stuck_pulse_begins :
    got (exec .stuckWaitRestart ((lineAt .stuck base).onPort fun p => { p with stuckWait := some 1 })) eventsNow
      = some [] := by decide +kernel
theorem test_stuck_wait : got (exec .stuckWaitRestart (lineAt .stuck base)) (·.port.stuckWait) = some (some 1000) := by
  decide +kernel
/-- spec/01, Frame timing example: a start mark of 40 us and 10 us, then one slot of 10 us a bit. -/
theorem test_reply_wave :
    got (exec (.replyStart false) (replyAt .due (base.onPort fun p => { p with reply := [0x80#8] }))) (·.port.tx)
      = some [⟨40, 10⟩, ⟨3, 7⟩, ⟨7, 3⟩, ⟨7, 3⟩, ⟨7, 3⟩, ⟨7, 3⟩, ⟨7, 3⟩, ⟨7, 3⟩, ⟨7, 3⟩] := by decide +kernel
theorem test_reply_collision_counts :
    got (exec .replyCollision (replyAt .sending base)) (fun t => (t.port.line, t.port.collisions)) = some (.idle, 1) := by
  decide +kernel
/-- A good STATUS frame in the receive buffer is taken at its end-of-data (R4, R12). -/
theorem test_end_of_data_takes :
    got (exec .endOfData (lineAt .receiving (base.onPort fun p => { p with rxBytes := requestFrame 31#8 3#8 [2#8] })))
      (fun t => (t.port.line, t.port.reply.length)) = some (.replying, 20) := by decide +kernel
theorem test_bad_check_byte :
    got (exec .endOfData (lineAt .receiving (base.onPort fun p => { p with rxBytes := bytes [31, 3, 0, 0] })))
      (fun t => (t.port.line, t.port.checkErrors, t.port.framingErrors)) = some (.idle, 1, 0) := by decide +kernel

/-! ## Requests: replies as spec/11 lays them out, effects as their rules say -/

/-- The reply buffer after a command. -/
def replyOf (c : Instr) (s : State) : Option (List Byte) := got (exec c s) (fun t => t.port.reply.dropLast)

theorem test_unknown_kind : replyOf (.unknownKind 5#8 0x7F#8 []) base = some (bytes [0x3F, 0]) := by decide +kernel
theorem test_enrol_first_station : replyOf (.enrol 31#8 (bytes [2, 0, 0, 1, 0xF4])) base = some (bytes [0, 3, 0, 0, 0]) := by
  decide +kernel
theorem test_enrol_clamps_channels :
    replyOf (.enrol 4#8 (bytes [1, 30, 0, 0, 0])) (probed 4 6 base) = some (bytes [0, 3, 1, 0, 24]) := by decide +kernel
theorem test_takeover_refused_before_10s :
    replyOf (.enrol 31#8 (bytes [2, 0, 1, 0, 7])) (staffed base) = some (bytes [0x14, 0]) := by decide +kernel
theorem test_leave_probe :
    got (exec (.leave 4#8 []) (probed 4 6 base)) (fun t => (t.nodes.probes.at 4).state) = some .absent := by
  decide +kernel
theorem test_arm_then_spent :
    got (exec (.arm 31#8 (bytes [0x60])) (staffed base)) (·.port.arm) = some (some .certCommit)
      ∧ got (exec (.status 4#8 (bytes [9])) (armedFor .certCommit base)) (·.port.arm) = some none := by decide +kernel
/-- spec/11, R179: vendor 0A6Dh, part 2410h, revision 1. -/
theorem test_ident : replyOf (.ident 0#8 []) base = some (bytes [0, 9, 0x0A, 0x6D, 0x24, 0x10, 1, 0, 0, 0, 0]) := by
  decide +kernel
theorem test_status_page_2_fresh :
    replyOf (.status 31#8 (bytes [2])) base
      = some (bytes [0, 17, 0, 0, 0, 0, 0, 0, 0, 0, 0, 0, 0, 0, 0, 0, 0, 0, 0]) := by decide +kernel
/-- spec/04, R73: P1 is 1 to 250. -/
theorem test_param_set_clamps : replyOf (.paramSet 31#8 (bytes [1, 4, 0])) (staffed base) = some (bytes [0, 3, 1, 0, 250]) := by
  decide +kernel
theorem test_param_get_class_1 : replyOf (.paramGet 31#8 (bytes [37])) (staffed base) = some (bytes [0, 3, 37, 0, 96]) := by
  decide +kernel
theorem test_map_write_clears_origin :
    got (exec (.mapWrite 31#8 (bytes [1, 0xDF, 3, 4, 5, 6, 0x12])) chassis)
      (fun t => (t.map.inUse, t.map.status, t.map.origin)) = some (5, .edited, none) := by decide +kernel
theorem test_map_read :
    replyOf (.mapRead 31#8 (bytes [0, 0, 1])) chassis = some (bytes [0, 7, 0, 0, 0, 10, 1, 10, 0x13]) := by
  decide +kernel
theorem test_scan_double_end :
    got (exec .scanComplete (base.onMap fun m =>
      { m with
        status := .checking, inUse := 2
        links := (m.links.put 3 ⟨true, ⟨0, 1⟩, ⟨1, 1⟩, 0, .ab⟩).put 7 ⟨true, ⟨2, 1⟩, ⟨0, 1⟩, 0, .ab⟩ }))
      (fun t => (t.map.status, t.map.error)) = some (.faulty, .doubleEnd 7 .b 3) := by decide +kernel
theorem test_burn_takes_lowest_free :
    replyOf (.mapBurn 31#8 []) (armedFor .mapBurn
      (chassis.onNv fun nv => { nv with gens := nv.gens.put 0 ⟨true, false, []⟩ })) = some (bytes [1, 2, 1, 2]) := by
  decide +kernel
theorem test_unarmed_commit : replyOf (.certCommit 31#8 (bytes [1, 2, 3, 4, 5, 6, 7, 8])) chassis = some (bytes [0x16, 0]) := by
  decide +kernel
/-- spec/12, 12.2: campaign number 1 and 5 legs. -/
theorem test_start_reply : replyOf (.campaignStart 31#8 []) chassis = some (bytes [0, 3, 1, 0, 5]) := by decide +kernel
theorem test_start_causes : replyOf (.campaignStart 31#8 []) (staffed base) = some (bytes [0x10, 1, 17]) := by
  decide +kernel
theorem test_pause_pends : got (exec (.campaignPause 31#8 []) building) (·.campaign.pausePending) = some true := by
  decide +kernel
theorem test_resume_needs_line :
    replyOf (.campaignResume 31#8 []) (lineAt .stuck (campaignAt .paused chassis)) = some (bytes [0x10, 1, 8]) := by
  decide +kernel
theorem test_abort_lamps :
    got (exec (.campaignAbort 31#8 []) building) (fun t => (t.campaign.state, t.campaign.lamps, t.planner.queue))
      = some (.aborted, ⟨false, false, true⟩, []) := by decide +kernel
theorem test_restart_waits_for_reply :
    got (exec (.restart 31#8 []) (armedFor .restart chassis)) (fun t => (t.campaign.restartDue, t.campaign.lastReset))
      = some (true, .power) := by decide +kernel
theorem test_result_read_no_leg : replyOf (.resultRead 31#8 (bytes [0, 3])) chassis = some (bytes [0x17, 0]) := by
  decide +kernel
theorem test_finding_read_empty : replyOf (.findingRead 31#8 (bytes [0])) chassis = some (bytes [0x17, 0]) := by
  decide +kernel
theorem test_cert_read_not_done : replyOf (.certRead 31#8 (bytes [3, 1])) chassis = some (bytes [0x10, 0]) := by
  decide +kernel

/-! ## The epoch cycle of the commissioning run (spec/12, 12.2) -/

theorem test_plan_of_epoch_1 :
    got (exec .planEnd building)
      (fun t => (t.epoch.number, t.planner.queue.map (·.val), t.planner.trials.map (·.leg.val)))
      = some (1, [1, 6], [0, 2, 4]) := by decide +kernel
/-- Slot 2 drives trial 1 on lane 5 with seed 1,026 and listens for trial 2. -/
theorem test_fetch_slot_2 :
    replyOf (.fetch 2#8 (bytes [0, 1, 0])) announced = some (bytes [0, 9, 2, 0, 1, 1, 0, 2, 5, 4, 2]) := by
  decide +kernel
theorem test_fetch_no_duty_stale : replyOf (.fetch 2#8 (bytes [0, 9, 0])) announced = some (bytes [0x20, 0]) := by
  decide +kernel
theorem test_withdrawal :
    got (exec .announceEnd threeFetched)
      (fun t => (t.planner.queue.map (·.val), (t.nodes.probes.at 3).misses, t.epoch.released.at 3, t.epoch.qstb))
      = some ([2, 1, 6], 1, true, true) := by decide +kernel
theorem test_gap_of_p4 :
    got (exec .phase1End (epochAt 1 .phase1 base)) (fun t => (t.epoch.state, t.epoch.timer)) = some (.gap, some 500) := by
  decide +kernel
theorem test_collecting_times :
    got (exec .phase2End (epochAt 1 .phase2 base)) (fun t => (t.epoch.timer, t.epoch.grace)) = some (some 50000, 25) := by
  decide +kernel
theorem test_report_completes :
    got (exec (.report 1#8 (bytes [0, 1, 0, 9, 0, 60, 0, 70, 0, 10, 0, 62, 5, 220, 0, 11, 0, 58, 0, 63, 0]))
      (storeRun 0 [.drive .drove, .drive .drove] collecting))
      (fun t => (t.grading.refs.at 1, (t.results.records.at 0).verdict, (t.results.records.at 0).margin,
        (t.nodes.probes.at 1).cursor)) = some (16038, .pass, some 359, 3) := by decide +kernel
theorem test_report_lane_mismatch :
    replyOf (.report 0#8 (bytes [0, 1, 0, 20, 1])) collecting = some (bytes [0x25, 0]) := by decide +kernel
theorem test_released_report_refused :
    replyOf (.report 3#8 (bytes [0, 1, 0, 4, 0, 0, 0, 0, 0])) collecting = some (bytes [0x10, 0]) := by decide +kernel
theorem test_grace_end_no_report :
    got (exec .graceEnd (epochAt 1 .grace collecting))
      (fun t => ((t.results.records.at 0).verdict, (t.results.records.at 0).settled, t.planner.queue.map (·.val),
        (t.nodes.probes.at 0).misses)) = some (.noReport, false, [2, 1, 6, 0, 4], 1) := by decide +kernel
theorem test_void_settle_returns :
    got (exec .voidSettleEnd (epochAt 1 .void collecting)) (fun t => (t.planner.queue.map (·.val), t.epoch.state))
      = some ([0, 4, 2, 1, 6], .planning) := by decide +kernel
theorem test_wait_expiry :
    got (exec .waitExpiry (campaignAt .waiting
      (chassis.onPlanner fun p => { p with queue := (mapped base).map.legList })))
      (fun t => (t.campaign.state, t.campaign.result, t.results.counts.at 8)) = some (.done, .bad, 5) := by
  decide +kernel

/-! ## Supervision, presence, resets -/

theorem test_sag_voids_in_gap :
    got (exec .sagFilterExpiry ((epochAt 2 .gap chassis).onRail fun r => { r with below := true, filter := some 0 }))
      (fun t => (t.rail.sagCount, t.rail.voidTotal, t.rail.consecutive, t.epoch.state, t.findings.list.length))
      = some (1, 1, 1, .void, 1) := by decide +kernel
theorem test_rsense_times_p14 : got (exec (.rsenseDeparture true) base) (·.rail.filter) = some (some 20) := by
  decide +kernel
theorem test_refclk_times_p16 : got (exec .refclkEdge base) (·.timebase.returnTimer) = some (some 20000) := by
  decide +kernel
/-- spec/08, R146: 20 us without an edge is a clock loss. -/
theorem test_gap_brings_clock_loss :
    eventsNow (base.onTimebase fun t => { t with running := true, gap := some 1 })
      = [.clockLoss] := by decide +kernel
theorem test_return_at_once_in_idle :
    got (exec .returnTimerExpiry (base.onTimebase fun t => { t with running := true, returnTimer := some 0 }))
      (fun t => (t.timebase.source, t.timebase.returnPending)) = some (.reference, false) := by decide +kernel
theorem test_clock_loss_marks_gap :
    got (exec .clockLoss ((epochAt 2 .gap base).onTimebase fun t => { t with running := true, source := .reference }))
      (fun t => (t.timebase.source, t.epoch.backup, t.timebase.lossCount)) = some (.backup, true, 1) := by
  decide +kernel
theorem test_presence_departure : got (exec (.presenceDeparture 7 true) base) (fun t => (t.nodes.presence.at 7).running)
    = some (some 10000) := by decide +kernel
theorem test_presence_loss_keeps_channels :
    got (exec (.presenceLoss 4) (probed 4 6 base)) (fun t => ((t.nodes.probes.at 4).state, (t.nodes.probes.at 4).channels))
      = some (.absent, some 6) := by decide +kernel
theorem test_lamp_blinks :
    got (exec .lampBlink (campaignAt .paused base)) (fun t => (t.campaign.lamps.run, t.campaign.blinkTimer))
      = some (true, some 500000) := by decide +kernel
theorem test_pin_reset_kind :
    got (exec (.pinReset false) (heldBy .pin chassis)) (fun t => (t.campaign.lastReset, t.map.inUse, t.held))
      = some (.pin, 0, none) := by decide +kernel
theorem test_nreset_stops_write :
    got (exec .nresetAsserted (chassis.onNv fun nv => { nv with state := .burning, write := some ⟨0, []⟩ }))
      (fun t => (t.nv.state, t.nv.write, t.held)) = some (.idle, none, some .pin) := by decide +kernel
theorem test_power_reset_seats_nothing :
    got (exec (.powerReset true false []) chassis) (fun t => (t.port.levelFromReset, (t.nodes.presence.at 0).seated))
      = some (true, false) := by decide +kernel
theorem test_burn_completes :
    got (exec (.burnComplete []) (base.onNv fun nv =>
      { nv with state := .burning, last := ⟨.pending, some (.mapBurn, 2)⟩, write := some ⟨2, withCheck [3#8]⟩ }))
      (fun t => (t.map.origin, t.nv.last.outcome)) = some (some 2, .ok) := by decide +kernel
theorem test_cert_write_spoiled :
    got (exec (.certWriteComplete [(0, 9#8)]) (base.onNv fun nv =>
      { nv with state := .writingCert, last := ⟨.pending, some (.certCommit, 1)⟩, write := some ⟨1, withCheck [1#8]⟩ }))
      (fun t => (t.campaign.certified, t.nv.last.outcome, (t.nv.certs.at 1).done)) = some (false, .failed, false) := by
  decide +kernel
/-- A timer at 1 us puts its row's command in the queue (log entry 1). -/
theorem test_timer_event_due :
    eventsNow (base.onRail fun r => { r with filter := some 1 }) = [.sagFilterExpiry]
      ∧ eventsNow (base.onRail fun r => { r with filter := some 2 }) = [] := by decide +kernel

/-! ## Witnesses: for every statement with hypotheses, concrete states that meet them, clause by clause, at the edges
of their ranges. A statement whose hypotheses are only "no reset in progress" or a sender is met by the first four. -/

def waiting : State := campaignAt .waiting chassis
def paused : State := campaignAt .paused chassis
def finished : State := campaignAt .done chassis
def mapAt (m : MapStatus) (s : State) : State := s.onMap fun x => { x with status := m }
def nvAt (n : NvState) (s : State) : State := s.onNv fun x => { x with state := n }

theorem witness_no_reset_in_progress : base.held = none ∧ chassis.held = none ∧ collecting.held = none := by
  decide +kernel

/-- The hypothesis stationMay at address 31, as a test. -/
def asksFrom31 (s : State) : Bool :=
  decide (s.held = none ∧ addressOf stationHeader = 31 ∧ s.nodes.station.state = .active)

theorem asksFrom31_iff (s : State) : asksFrom31 s = true ↔ stationMay stationHeader s := decide_eq_true_iff

/-- The hypothesis probeMay of slot n, with the slot number as the header, as a test. -/
def asksFrom (n : Slot) (s : State) : Bool :=
  decide (s.held = none ∧ addressOf (byteOf n.val) = n.val ∧ (s.nodes.probes.at n).state = .active)

theorem asksFrom_iff (n : Slot) (s : State) : asksFrom n s = true ↔ probeMay n (byteOf n.val) s := decide_eq_true_iff

theorem witness_stationMay : stationMay stationHeader chassis ∧ stationMay 0xFF#8 finished := by
  refine ⟨⟨?_, ?_, ?_⟩, ⟨?_, ?_, ?_⟩⟩ <;> decide +kernel

theorem witness_probeMay : probeMay 0 0#8 chassis ∧ probeMay 19 19#8 (probed 19 3 base) := by
  refine ⟨⟨?_, ?_, ?_⟩, ⟨?_, ?_, ?_⟩⟩ <;> decide +kernel

theorem witness_senderOf :
    senderOf 0#8 = some (.probe 0) ∧ senderOf 19#8 = some (.probe 19) ∧ senderOf 31#8 = some .station
      ∧ 20 ≤ addressOf 20#8 ∧ addressOf 30#8 ≤ 30 := by decide +kernel

theorem witness_CommandsKeepQueue : ∃ t, exec .refclkEdge chassis = .next t := ⟨_, rfl⟩

theorem witness_IdleStepQueuesDueEvents : chassis.pending = [] ∧ chassis.held = none := by decide +kernel

theorem witness_ResetInProgressIgnores :
    (heldBy .pin base).held ≠ none ∧ (heldBy .power base).held ≠ none
      ∧ (∀ n low, Instr.startMark ≠ .presenceDeparture n low) ∧ (∀ b, Instr.startMark ≠ .rsenseDeparture b)
      ∧ (∀ d l x, Instr.startMark ≠ .powerReset d l x) ∧ (∀ d, Instr.startMark ≠ .pinReset d)
      ∧ Instr.startMark ≠ .nresetAsserted := by
  simp [heldBy]

theorem witness_OutOfPlaceIgnored :
    (∀ s ∈ [base, chassis, replyAt .complete base, replyAt .sending base, lineAt .broken base, lineAt .stuck base], s.held = none)
      ∧ base.port.line ≠ .receiving ∧ base.port.line ≠ .broken ∧ base.port.line ≠ .stuck
      ∧ ¬(base.port.line = .replying ∧ base.port.replyPhase = .due)
      ∧ ¬((replyAt .complete base).port.line = .replying
          ∧ ((replyAt .complete base).port.replyPhase = .due ∨ (replyAt .complete base).port.replyPhase = .sending))
      ∧ ¬((replyAt .sending base).port.line = .replying ∧ (replyAt .sending base).port.replyPhase = .complete)
      ∧ (lineAt .broken base).port.levelFromReset = false ∧ (lineAt .stuck base).port.levelFromReset = false
      ∧ base.map.status ≠ .checking ∧ base.nv.state ≠ .burning ∧ base.nv.state ≠ .writingCert
      ∧ (chassis.nodes.presence.at 0).seated = true ∧ (chassis.nodes.presence.at 19).seated = false
      ∧ base.campaign.state ≠ .waiting ∧ base.campaign.state ≠ .paused
      ∧ base.epoch.state ∉ [EpochState.planning, .announce, .phase1, .gap, .phase2, .collecting, .grace, .void]
      ∧ base.rail.filter = none ∧ base.timebase.running = false ∧ base.timebase.returnTimer = none := by
  decide +kernel

/-- A reset ended with SL dominant, and that level is being measured. -/
def dominantAfterReset : State := base.onPort fun _ => Port.afterReset true

theorem witness_StartMarkBeginsFrame :
    (∀ s ∈ [base, lineAt .receiving base, replyAt .complete base, dominantAfterReset], s.held = none)
      ∧ dominantAfterReset.port.levelFromReset = true
      ∧ base.port.levelFromReset = false ∧ base.port.line = .idle ∧ (lineAt .receiving base).port.line = .receiving
      ∧ (replyAt .complete base).port.line = .replying ∧ (replyAt .complete base).port.replyPhase = .complete := by
  decide +kernel

/-- A buffer of whole bytes and bits in RECEIVING. -/
def receiving (whole : Nat) (bits : Nat) : State :=
  base.onPort fun p =>
    { p with line := .receiving, rxBytes := List.replicate whole 0#8, rxBits := List.replicate bits true }

theorem witness_BitPulseReceives :
    (∀ s ∈ [receiving 0 6, receiving 33 7, receiving 34 0, dominantAfterReset, replyAt .complete base], s.held = none)
      ∧ dominantAfterReset.port.levelFromReset = true ∧ (replyAt .complete base).port.levelFromReset = false
      ∧ (replyAt .complete base).port.line = .replying ∧ (replyAt .complete base).port.replyPhase = .complete
      ∧ (∀ n ∈ [0, 33, 34], (receiving n 7).port.line = .receiving ∧ (receiving n 7).port.levelFromReset = false)
      ∧ (receiving 34 0).port.rxBytes.length = 34 ∧ (receiving 33 7).port.rxBytes.length < 34
      ∧ (receiving 33 7).port.rxBits.length = 7 ∧ (receiving 0 6).port.rxBits.length ≠ 7
      ∧ (receiving 0 6).port.rxBits ≠ [] ∧ (receiving 0 0).port.rxBits = [] := by
  decide +kernel

/-- A RESTART has been accepted and waits for its reply. -/
def restartAwaited : State := base.onCampaign fun c => { c with restartDue := true }

theorem witness_DisturbancesCount :
    (∀ s ∈ [base, lineAt .receiving base, lineAt .broken base, replyAt .due base, replyAt .sending base,
        replyAt .complete base, dominantAfterReset, replyAt .due restartAwaited], s.held = none)
      ∧ dominantAfterReset.port.levelFromReset = true ∧ (replyAt .complete base).port.levelFromReset = false
      ∧ (replyAt .complete base).port.line = .replying ∧ (replyAt .complete base).port.replyPhase = .complete
      ∧ (replyAt .due restartAwaited).port.line = .replying ∧ (replyAt .due restartAwaited).port.replyPhase = .due
      ∧ (replyAt .due restartAwaited).campaign.restartDue = true
      ∧ (lineAt .receiving base).port.line = .receiving ∧ (lineAt .broken base).port.line = .broken
      ∧ (replyAt .due base).port.replyPhase ≠ .complete ∧ (replyAt .sending base).port.line = .replying
      ∧ (replyAt .sending base).port.replyPhase = .sending ∧ (replyAt .sending base).campaign.restartDue = false := by
  decide +kernel

theorem witness_StuckEpisode :
    (∀ s ∈ [lineAt .broken (epochAt 1 .gap chassis), lineAt .broken waiting, lineAt .broken paused,
        lineAt .stuck base], s.held = none)
      ∧ (lineAt .stuck base).port.levelFromReset = false
      ∧ (lineAt .broken base).port.line = .broken ∧ (lineAt .broken base).campaign.state.live = false
      ∧ (∀ e ∈ [EpochState.announce, .phase1, .gap, .phase2, .collecting, .grace, .planning, .void],
          (lineAt .broken (epochAt 1 e chassis)).campaign.state = .running
          ∧ (lineAt .broken (epochAt 1 e chassis)).epoch.state = e
          ∧ (lineAt .broken (epochAt 1 e chassis)).campaign.state.live = true)
      ∧ (lineAt .broken waiting).campaign.state = .waiting ∧ (lineAt .broken paused).campaign.state = .paused
      ∧ (lineAt .stuck base).port.line = .stuck ∧ (lineAt .stuck base).pending = [] := by decide +kernel

/-- The receive buffer holds these bytes in RECEIVING. -/
def buffered (bs : List Byte) : State := lineAt .receiving (base.onPort fun p => { p with rxBytes := bs })

def badCheck : State := buffered (bytes [31, 3, 0, 0])

/-- The longest frame: 34 bytes. -/
def longest : State := buffered (requestFrame 31#8 RequestKind.arm.byte (List.replicate 30 0#8))

theorem witness_EndOfDataTests :
    (∀ s ∈ [badCheck, buffered (bytes [31, 3, 0]), buffered (requestFrame 31#8 0x7F#8 [])], s.held = none)
      ∧ (buffered (requestFrame 31#8 0x7F#8 [])).port.rxBits = []
      ∧ (buffered (requestFrame 31#8 0x7F#8 [])).port.line = .receiving
      ∧ (buffered (requestFrame 31#8 0x7F#8 [])).port.rxBytes = requestFrame 31#8 0x7F#8 []
      ∧ RequestKind.ofByte 0x7F#8 = none
      ∧ ¬(4 ≤ (buffered (bytes [31, 3, 0])).port.rxBytes.length)
      ∧ (((buffered (bytes [31, 3, 31, 0])).port.rxBytes.getD 2 0).toNat = 31)
      ∧ badCheck.port.rxBits = [] ∧ 4 ≤ badCheck.port.rxBytes.length
      ∧ badCheck.port.rxBytes.length = (badCheck.port.rxBytes.getD 2 0).toNat + 4
      ∧ badCheck.port.rxBytes.getLast? ≠ some (crc8 badCheck.port.rxBytes.dropLast)
      ∧ longest.held = none ∧ longest.port.line = .receiving ∧ longest.port.rxBits = []
      ∧ longest.port.rxBytes = requestFrame 31#8 RequestKind.arm.byte (List.replicate 30 0#8) := by
  decide +kernel

theorem witness_ReplyWindow :
    (∀ s ∈ [replyAt .due base, replyAt .sending base, replyAt .complete base], s.held = none)
      ∧ (∀ ph ∈ [ReplyPhase.due, .sending, .complete],
        (replyAt ph base).port.line = .replying ∧ (replyAt ph base).port.replyPhase = ph
        ∧ (replyAt ph base).campaign.restartDue = false)
      ∧ (replyAt .due (base.onCampaign fun c => { c with restartDue := true })).campaign.restartDue = true := by
  decide +kernel

/-- The probe in slot 0 LAPSED. -/
def lapsed : State :=
  chassis.onNodes fun n => { n with probes := n.probes.put 0 { n.probes.at 0 with state := .lapsed } }

theorem witness_AcceptanceInOrder :
    (∀ s ∈ [base, chassis, lapsed, armedFor .restart chassis], s.held = none)
      ∧ (base.nodes.probes.at 0).state = .absent ∧ base.nodes.station.state ≠ .active
      ∧ (chassis.nodes.probes.at 0).state ≠ .absent ∧ chassis.nodes.station.state = .active
      ∧ RequestKind.mapRead ∉ [RequestKind.enrol, .status, .ident, .leave, .fetch, .report]
      ∧ RequestKind.fetch ∈ [RequestKind.fetch, .report] ∧ (lapsed.nodes.probes.at 0).state = .lapsed
      ∧ chassis.port.arm.map ArmKind.byte ≠ some RequestKind.mapBurn.byte
      ∧ (armedFor .restart chassis).port.arm.map ArmKind.byte ≠ some RequestKind.mapBurn.byte
      ∧ RequestKind.ofByte 0x00#8 = none ∧ RequestKind.ofByte 0xFF#8 = none := by decide +kernel

theorem witness_ArmSetsRecord :
    (∀ s ∈ [chassis, building], asksFrom31 s)
      ∧ (0x24#8 : Byte) ≠ 0x23#8 ∧ (0x24#8 : Byte) ≠ 0x60#8 ∧ (0x24#8 : Byte) ≠ 0x70#8
      ∧ (bytes []).length ≠ 1 ∧ (List.replicate 30 (0#8 : Byte)).length ≤ 30 := by decide +kernel

theorem witness_OpenReadsAnswer :
    (∀ s ∈ [base, chassis], s.held = none)
      ∧ 2 < (3#8 : Byte).toNat ∧ 2 < (255#8 : Byte).toNat ∧ (bytes [1, 2]).length ≠ 1 := by
  decide +kernel

theorem witness_ParamGetAnswers :
    (∀ s ∈ [chassis, building, waiting, paused], asksFrom31 s)
      ∧ [0, 17, 31, 48, 255].map paramOf = [none, none, none, none, none]
      ∧ paramOf 1 = some (.general 0) ∧ paramOf 16 = some (.general 15)
      ∧ paramOf 32 = some (.threshold 0 0) ∧ paramOf 47 = some (.threshold 3 3)
      ∧ building.campaign.state = .running ∧ waiting.campaign.state = .waiting ∧ paused.campaign.state = .paused := by
  decide +kernel

theorem witness_ParamSetStores :
    (∀ s ∈ [chassis, building, waiting, paused], asksFrom31 s)
      ∧ ¬(chassis.campaign.state = .running ∨ chassis.campaign.state = .waiting
        ∨ (chassis.campaign.state = .paused ∧ (7#8 : Byte) = 7#8))
      ∧ ¬(paused.campaign.state = .running ∨ paused.campaign.state = .waiting
        ∨ (paused.campaign.state = .paused ∧ (6#8 : Byte) = 7#8))
      ∧ (1#8 : Byte).toNat = (0 : Fin 16).val + 1 ∧ (16#8 : Byte).toNat = (15 : Fin 16).val + 1
      ∧ (32#8 : Byte).toNat = 32 + 4 * (0 : Fin 4).val ∧ (47#8 : Byte).toNat = 35 + 4 * (3 : Fin 4).val
      ∧ ¬((1 ≤ (17#8 : Byte).toNat ∧ (17#8 : Byte).toNat ≤ 16)
          ∨ (32 ≤ (17#8 : Byte).toNat ∧ (17#8 : Byte).toNat ≤ 47)) := by decide +kernel

theorem witness_PresenceFiltersSettle :
    (∀ s ∈ [base, chassis], s.held = none)
      ∧ (base.nodes.presence.at 19).seated = false ∧ (chassis.nodes.presence.at 0).seated = true
      ∧ (base.nodes.presence.at 19).low ≠ true ∧ (chassis.nodes.presence.at 0).low ≠ false := by decide +kernel

theorem witness_EnrolProbe :
    (∀ s ∈ [base, chassis, waiting, campaignAt .waiting lapsed], s.held = none)
      ∧ (bytes [1, 6, 0, 0]).length ≠ 5 ∧ (List.replicate 30 (0#8 : Byte)).length ≠ 5
      ∧ addressOf 0#8 = (0 : Slot).val ∧ (base.nodes.presence.at 0).seated = false
      ∧ (chassis.nodes.presence.at 0).seated = true ∧ (2#8 : Byte).toNat < 3 ∧ 3 ≤ (3#8 : Byte).toNat
      ∧ (chassis.campaign.state ≠ .waiting) ∧ (waiting.nodes.probes.at 0).state = .active
      ∧ (campaignAt .waiting lapsed).campaign.state = .waiting
      ∧ ((campaignAt .waiting lapsed).nodes.probes.at 0).state ≠ .active := by decide +kernel

/-- The station has been silent for 10 s. -/
def silent (s : State) : State := s.onNodes fun n => { n with silence := 10000000 }

theorem witness_EnrolStation :
    (∀ s ∈ [base, chassis, campaignAt .waiting base, silent (campaignAt .running chassis)], s.held = none)
      ∧ (bytes [2, 0, 0, 1, 0xF4, 0]).length ≠ 5 ∧ (bytes []).length ≤ 30 ∧ addressOf 31#8 = 31 ∧ base.nodes.station.state = .absent ∧ (campaignAt .waiting base).nodes.station.state = .absent
      ∧ chassis.nodes.station.state ≠ .absent ∧ chassis.nodes.holder = some 500 ∧ chassis.nodes.holder ≠ some 7
      ∧ ¬((1#8 : Byte) ≠ 0#8 ∧ 10000000 ≤ chassis.nodes.silence)
      ∧ (∀ c ∈ [CampaignState.idle, .running, .waiting, .paused],
          10000000 ≤ (silent (campaignAt c chassis)).nodes.silence
          ∧ (silent (campaignAt c chassis)).campaign.state = c) := by decide +kernel

theorem witness_LeaveMakesAbsent :
    (∀ s ∈ [chassis, building, paused, waiting], asksFrom31 s)
      ∧ (∀ s ∈ [lapsed, chassis], s.held = none)
      ∧ (lapsed.nodes.probes.at 0).state ≠ .absent ∧ (chassis.nodes.probes.at 0).state ≠ .absent
      ∧ chassis.campaign.state.live = false ∧ building.campaign.state = .running
      ∧ paused.campaign.state = .paused ∧ waiting.campaign.state = .waiting := by decide +kernel

theorem witness_MapWriteAndValidate :
    (∀ s ∈ [chassis, building, finished, mapAt .checking chassis, nvAt .burning chassis], asksFrom31 s)
      ∧ (∀ n ∈ [0, 6, 8, 28, 30], n ∉ [7, 12, 17, 22, 27])
      ∧ linksOf (bytes [20, 0, 1, 0, 1]) = none ∧ 480 < 480 + 1
      ∧ linksOf (bytes [255, 9, 9, 9, 9]) = some [LinkRecord.unused] ∧ 479 + 1 ≤ 480
      ∧ linksOf (bytes [19, 47, 0, 0, 0x33]) = some [⟨true, ⟨19, 47⟩, ⟨0, 0⟩, 3, .both⟩]
      ∧ building.campaign.state.live = true ∧ chassis.campaign.state.live = false
      ∧ chassis.campaign.state = .idle ∧ finished.campaign.state ≠ .idle ∧ finished.campaign.state.live = false
      ∧ (mapAt .checking chassis).map.status = .checking ∧ (nvAt .burning chassis).nv.state ≠ .idle
      ∧ chassis.map.status ≠ .checking ∧ chassis.nv.state = .idle := by decide +kernel

/-- The table a MAP_WRITE of one record at index 479 leaves has the record there and the old ones elsewhere. -/
theorem witness_MapWriteAndValidate_links (k : LinkIx) :
    (chassis.map.links.put 479 LinkRecord.unused).at k
      = (if 479 ≤ k.val then [LinkRecord.unused][k.val - 479]? else none).getD (chassis.map.links.at k) := by
  have hk := k.isLt
  rw [Table.at_put]
  by_cases h : 479 ≤ k.val
  · have he : k = (479 : LinkIx) := Fin.ext (by simpa using (by omega : k.val = 479))
    subst he
    rfl
  · have he : k ≠ (479 : LinkIx) := by rintro rfl; exact h (le_refl _)
    simp [h, he]

/-- One link in use, in CHECKING; the flag says whether its ends lie in one slot. -/
def checkingOne (same : Bool) : State :=
  base.onMap fun m =>
    { m with
      status := .checking, inUse := 1
      links := m.links.put 479 ⟨true, ⟨0, 1⟩, ⟨if same then 0 else 1, 47⟩, 0, .ab⟩ }

theorem only_link (same : Bool) (k : LinkIx) : ((checkingOne same).map.links.at k).inUse = true → k = 479 := by
  have h : (checkingOne same).map.links = (Table.fill 480 LinkRecord.unused).put 479
      ⟨true, ⟨0, 1⟩, ⟨if same then 0 else 1, 47⟩, 0, .ab⟩ := rfl
  rw [h, Table.at_put]
  split
  · exact fun _ => ‹_›
  · simp [LinkRecord.unused]

theorem witness_ScanGrantsValid_lawful :
    (checkingOne false).held = none ∧ (checkingOne false).map.status = .checking ∧ (checkingOne false).map.error = .none
      ∧ (checkingOne false).map.inUse = (checkingOne false).map.links.toList.countP (·.inUse)
      ∧ 1 ≤ (checkingOne false).map.inUse ∧ MapLaw (checkingOne false).map := by
  refine ⟨rfl, by decide +kernel, by decide +kernel, by decide +kernel, by decide +kernel, ?_, ?_⟩
  · intro j k e hj hk
    rw [only_link false j hj.1, only_link false k hk.1]
  · intro k hk
    rw [only_link false k hk]
    decide +kernel

theorem witness_ScanGrantsValid_unlawful :
    (checkingOne true).held = none ∧ (checkingOne true).map.status = .checking ∧ (checkingOne true).map.error = .none
      ∧ (checkingOne true).map.inUse = (checkingOne true).map.links.toList.countP (·.inUse)
      ∧ ¬(1 ≤ (checkingOne true).map.inUse ∧ MapLaw (checkingOne true).map) := by
  refine ⟨rfl, by decide +kernel, by decide +kernel, by decide +kernel, fun h => ?_⟩
  exact h.2.2 479 (by decide +kernel) (by decide +kernel)

theorem witness_StartOpensCampaign :
    (∀ s ∈ [chassis, staffed base], asksFrom31 s)
      ∧ chassis.campaign.state.live = false
      ∧ (chassis.map.status = .valid ∧ chassis.nv.state = .idle ∧ chassis.rail.state = .ok
          ∧ chassis.port.line ≠ .stuck ∧ ∃ n : Slot, (chassis.nodes.probes.at n).state = .active)
      ∧ ¬((staffed base).map.status = .valid ∧ (staffed base).nv.state = .idle) := by decide +kernel

theorem witness_PauseAndBlink :
    (∀ s ∈ [building, waiting, paused, finished], asksFrom31 s)
      ∧ (∀ s ∈ [paused], s.held = none)
      ∧ RequestKind.mapValidate ∈ [RequestKind.campaignPause, .campaignResume, .campaignAbort, .campaignStart, .mapValidate]
      ∧ building.campaign.state.live = true ∧ building.campaign.state = .running ∧ waiting.campaign.state = .waiting
      ∧ paused.campaign.state = .paused ∧ finished.campaign.state = .done := by decide +kernel

theorem witness_ResumeAndAbort :
    (∀ s ∈ [paused, lineAt .stuck paused, building, chassis], asksFrom31 s)
      ∧ paused.campaign.state = .paused ∧ paused.rail.state = .ok ∧ paused.port.line ≠ .stuck
      ∧ (lineAt .stuck paused).port.line = .stuck
      ∧ (paused.onRail fun r => { r with state := .sag }).rail.state = .sag
      ∧ building.campaign.state = .running ∧ chassis.campaign.state = .idle
      ∧ paused.campaign.state.live = true ∧ chassis.campaign.state.live = false := by decide +kernel

/-- WAITING with every leg of the map pending. -/
def allPending : State := waiting.onPlanner fun p => { p with queue := waiting.map.legList }

theorem witness_WaitExpirySettles :
    (∀ s ∈ [allPending], s.held = none)
      ∧ allPending.campaign.state = .waiting ∧ allPending.planner.queue ≠ [] ∧ allPending.planner.queue.Nodup
      ∧ settledCount allPending + allPending.planner.queue.length = allPending.map.legList.length := by
  decide +kernel

theorem witness_PlanEndAdmits :
    building.held = none ∧ building.epoch.state = .planning ∧ building.epoch.buildVoid = false
      ∧ building.campaign.pausePending = false ∧ building.planner.queue.Nodup
      ∧ scanQueue building.map building.planner.snapshot building.planner.queue ≠ [] := by decide +kernel

theorem witness_PlanEndLists :
    building.held = none ∧ building.epoch.state = .planning ∧ building.epoch.buildVoid = false
      ∧ building.campaign.pausePending = false
      ∧ scanQueue building.map building.planner.snapshot building.planner.queue ≠ []
      ∧ got (exec .planEnd building) (fun t => (t.planner.duties.at 2).length) = some 2 := by decide +kernel

/-- A plan build with every node gone, so that nothing is admitted. -/
def deserted (queue : List LegIx) : State :=
  building.onPlanner fun p => { p with snapshot := [], queue := queue }

theorem witness_PlanEndOtherwise :
    (∀ s ∈ [building, pausing building, deserted [], deserted [0]], s.held = none)
      ∧ building.campaign.state = .running ∧ (pausing building).campaign.pausePending = true
      ∧ (∀ q ∈ [[], [0]],
          scanQueue (deserted q).map (deserted q).planner.snapshot (deserted q).planner.queue = []
          ∧ (deserted q).epoch.state = .planning ∧ (deserted q).campaign.state = .running)
      ∧ (building.onEpoch fun e => { e with buildVoid := true }).epoch.buildVoid = true := by decide +kernel

theorem witness_FetchServes :
    asksFrom 2 announced
      ∧ (1 = announced.epoch.number ∧ announced.epoch.state ≠ .none) ∧ announced.epoch.state = .announce
      ∧ announced.planner.duties.at 4 = [] ∧ (announced.planner.duties.at 2).length = 2
      ∧ (announced.planner.duties.at 2)[1]?.isSome = true
      ∧ (announced.onEpoch fun e => { e with lastEnded := some (9, .closed) }).epoch.lastEnded = some (9, .closed)
      ∧ (∀ e ∈ [EpochState.void, .planning, .phase1, .grace], (epochAt 1 e announced).epoch.state = e) := by
  decide +kernel

theorem witness_ReportRefusals :
    asksFrom 2 collecting
      ∧ (1 = collecting.epoch.number ∧ collecting.epoch.state ≠ .none) ∧ collecting.epoch.state = .collecting
      ∧ collecting.planner.duties.at 4 = [] ∧ collecting.planner.duties.at 2 ≠ []
      ∧ collecting.epoch.released.at 3 = true ∧ collecting.epoch.released.at 2 = false
      ∧ (collecting.nodes.probes.at 2).fetchComplete = true
      ∧ (collecting.nodes.probes.at 2).cursor ≤ (collecting.planner.entries.at 2).length
      ∧ walk (collecting.planner.entries.at 2) 0 [] = none
      ∧ (walk (collecting.planner.entries.at 2) 0 (bytes [6, 1])).isSome = true
      ∧ RawEntry.value (.drive 5#8 9#8) = none
      ∧ walk (collecting.planner.entries.at 0) 0 (bytes [10, 1]) = some [.drive 10#8 1#8]
      ∧ (collecting.nodes.probes.at 2).cursor ≠ 1 := by decide +kernel

theorem witness_AnnounceEndWithdraws :
    (∀ s ∈ [threeFetched, announced], s.held = none)
      ∧ threeFetched.campaign.state = .running ∧ threeFetched.epoch.state = .announce
      ∧ threeFetched.planner.trials.filter (fun y => y.state == .held && !unfetched threeFetched.nodes y) ≠ []
      ∧ announced.planner.trials.filter (fun y => y.state == .held && !unfetched announced.nodes y) = []
      ∧ (threeFetched.onRail fun r => { r with state := .sag }).rail.state = .sag ∧ threeFetched.rail.state = .ok := by
  decide +kernel

theorem witness_PhasesRun :
    (∀ s ∈ [epochAt 1 .phase1 base, epochAt 1 .gap base, epochAt 1 .phase2 base, epochAt 1 .collecting base], s.held = none)
      ∧ (epochAt 1 .phase1 base).p 3 ≠ 0 ∧ (epochAt 1 .phase1 base).epoch.state = .phase1
      ∧ ((epochAt 1 .phase1 base).onCampaign fun c =>
          { c with params := c.params.store (.general 3) 0 }).p 3 = 0
      ∧ (epochAt 1 .gap base).epoch.state = .gap ∧ (epochAt 1 .phase2 base).epoch.state = .phase2
      ∧ (epochAt 1 .collecting base).epoch.state = .collecting := by decide +kernel

/-- The run of slot 0's two drive entries completes its report; the first of them alone does not. -/
theorem witness_ReportStoresAndCompletes :
    probeMay 0 0#8 collecting ∧ (bytes [10, 1, 20, 1]).length ≤ 27
      ∧ (0#8 : Byte).toNat * 256 + (1#8 : Byte).toNat = collecting.epoch.number
      ∧ collecting.planner.duties.at 0 ≠ [] ∧ collecting.epoch.released.at 0 = false
      ∧ (collecting.nodes.probes.at 0).fetchComplete = true
      ∧ (0#8 : Byte).toNat = (collecting.nodes.probes.at 0).cursor
      ∧ walk (collecting.planner.entries.at 0) 0 (bytes [10, 1, 20, 1]) = some [.drive 10#8 1#8, .drive 20#8 1#8]
      ∧ walk (collecting.planner.entries.at 0) 0 (bytes [10, 1]) = some [.drive 10#8 1#8]
      ∧ lanesMatch (collecting.planner.entries.at 0) 0 [.drive 10#8 1#8, .drive 20#8 1#8] = true
      ∧ [RawEntry.drive 10#8 1#8, .drive 20#8 1#8].map RawEntry.value
          = [EntryValue.drive .drove, .drive .drove].map some
      ∧ 0 + 2 = (collecting.planner.entries.at 0).length ∧ 0 + 1 < (collecting.planner.entries.at 0).length := by
  refine ⟨⟨?_, ?_, ?_⟩, ?_⟩ <;> decide +kernel

theorem witness_GraceEndSettles :
    let s := epochAt 1 .grace collecting
    s.held = none ∧ s.campaign.state = .running ∧ s.epoch.state = .grace ∧ (s.planner.trials.map (·.number)).Nodup
      ∧ (heldLegs s).Nodup ∧ heldLegs s ≠ [] ∧ (pausing s).campaign.pausePending = true := by decide +kernel

theorem witness_VoidSettleReturns :
    let s := epochAt 1 .void collecting
    s.held = none ∧ s.campaign.state = .running ∧ s.epoch.state = .void ∧ heldLegs s ≠ []
      ∧ ¬(s.campaign.causes ≠ ⟨false, false, false⟩ ∨ s.campaign.pausePending = true)
      ∧ (pausing s).campaign.pausePending = true := by decide +kernel

/-- Slots 0 and 1 have reported leg 0. -/
def reported : State :=
  storeRun 1 [.listen 60 70 0, .listen 62 1500 0, .listen 58 63 0]
    (storeRun 0 [.drive .drove, .drive .drove] collecting)

theorem witness_GradingDecides :
    ∃ y ∈ reported.planner.trials, y.leg = 0 ∧ driverEntry reported y = some .drove
      ∧ expectedEntry reported y = some ⟨10, 23008, 359, 0⟩ := by decide +kernel

/-- The entries of leg 0 (trial 0): the drive entry of slot 0, the expected entry of slot 1, its neighbours in order. -/
theorem witness_GradingDecides_entries :
    let drives := reported.planner.entries.at 0
    let listens := reported.planner.entries.at 1
    reported.campaign.state.live = true ∧ base.campaign.state.live = false
      ∧ drives[0]? = some ⟨.drive, 10, 0⟩ ∧ (reported.epoch.received.at 0)[0]? = some (.drive .drove)
      ∧ drives.countP (fun e => decide (e.kind = .drive ∧ e.trial = 0)) = 1
      ∧ listens[1]? = some ⟨.expected, 10, 0⟩ ∧ (reported.epoch.received.at 1)[1]? = some (.listen 62 1500 0)
      ∧ listens.countP (fun e => decide (e.kind = .expected ∧ e.trial = 0)) = 1
      ∧ listens.Pairwise (fun a b => a.kind = .neighbour → b.kind = .neighbour → a.trial = b.trial → a.lane < b.lane) := by
  decide +kernel

theorem witness_SignalLane :
    let ns : List Reading := [⟨19, 80, 1, 0⟩, ⟨21, 18304, 286, 0⟩]
    ns.Pairwise (fun a b => a.lane < b.lane)
      ∧ signalReading ⟨24, 96, 24, 2⟩ 64 ns = some ⟨21, 18304, 286, 0⟩
      ∧ signalReading ⟨24, 96, 24, 2⟩ 64 [⟨19, 80, 1, 0⟩] = none
      ∧ signalReading ⟨24, 96, 24, 2⟩ 64 [⟨19, 6144, 96, 0⟩, ⟨21, 6144, 96, 0⟩] = some ⟨19, 6144, 96, 0⟩ := by
  decide +kernel

/-- A campaign with one BLEED recorded, with that many findings before it. -/
def withFindings (n : Nat) : State :=
  building.onFindings fun f =>
    { f with list := List.replicate n ⟨.railVoid, none, none, none, 1, 1, none⟩
        ++ [⟨.bleed, some ⟨3, 6⟩, none, none, 3, 1, some 87⟩] }

theorem witness_FindingPresented :
    base.campaign.state.live = false ∧ (withFindings 0).campaign.state.live = true
      ∧ (withFindings 0).findings.list = [] ++ ⟨.bleed, some ⟨3, 6⟩, none, none, 3, 1, some 87⟩ :: []
      ∧ (withFindings 62).findings.list.length < 64 ∧ 64 ≤ (withFindings 63).findings.list.length
      ∧ (∀ g ∈ (withFindings 63).findings.list, ¬(g.kind = .crossed ∧ g.laneEnd = some ⟨3, 6⟩)) := by
  decide +kernel

theorem witness_RailSupervision :
    (∀ s ∈ [base, epochAt 1 .gap base], s.held = none)
      ∧ base.rail.below ≠ true ∧ (base.onRail fun r => { r with filter := some 0 }).rail.filter ≠ none
      ∧ (base.onRail fun r => { r with state := .sag }).rail.state = .sag ∧ base.rail.state = .ok
      ∧ base.epoch.state ∉ [EpochState.phase1, .gap, .phase2]
      ∧ (epochAt 1 .gap base).epoch.state ∈ [EpochState.phase1, .gap, .phase2]
      ∧ (epochAt 1 .gap base).campaign.state = .running := by decide +kernel

theorem witness_TimebaseSupervision :
    (∀ s ∈ [base, building], s.held = none)
      ∧ base.pending = [] ∧ (base.onTimebase fun t => { t with running := true, gap := some 1 }).timebase.gap = some 1
      ∧ base.timebase.running = false ∧ base.timebase.source = .backup
      ∧ (base.onTimebase fun t => { t with running := true, returnTimer := some 0 }).timebase.running = true
      ∧ (base.onTimebase fun t => { t with running := true, returnTimer := some 0 }).timebase.returnTimer ≠ none
      ∧ building.campaign.state = .running ∧ base.campaign.state ≠ .running ∧ base.campaign.state ≠ .paused := by
  decide +kernel

/-- Certificate slot 3 is DONE. -/
def certified : State := finished.onNv fun n => { n with certs := n.certs.put 3 ⟨true, true, withCheck [3#8]⟩ }

theorem witness_StationReads :
    (∀ s ∈ [chassis, withFindings 0, certified], asksFrom31 s)
      ∧ 1 ≤ (1#8 : Byte).toNat ∧ (5#8 : Byte).toNat ≤ 5 ∧ 475 + 5 ≤ 480 ∧ (0#8 : Byte).toNat < 1
      ∧ chassis.map.isLeg 6 = true ∧ chassis.map.isLeg 3 = false ∧ chassis.map.isLeg 959 = false
      ∧ (withFindings 0).findings.list[0]?.isSome = true ∧ (withFindings 0).findings.list.length ≤ (1#8 : Byte).toNat
      ∧ (3 : NvIx).val = (3#8 : Byte).toNat ∧ (certified.nv.certs.at 3).begun = true
      ∧ (certified.nv.certs.at 3).done = true ∧ (certified.nv.certs.at 0).done = false
      ∧ 3 < (4#8 : Byte).toNat ∧ 1 < (2#8 : Byte).toNat := by decide +kernel

/-- DONE, uncertified, with a map origin, armed for a certificate. -/
def ready : State := (armedFor .certCommit finished).onCampaign fun c => { c with origin := some 0 }

theorem witness_StoreTakesWrites :
    (∀ s ∈ [armedFor .mapBurn chassis, armedFor .mapBurn (nvAt .burning chassis), ready], asksFrom31 s)
      ∧ (armedFor .mapBurn chassis).port.arm = some .mapBurn ∧ chassis.map.status = .valid
      ∧ chassis.campaign.state.live = false ∧ chassis.nv.state = .idle ∧ (nvAt .burning chassis).nv.state ≠ .idle
      ∧ ¬(base.map.status = .valid ∧ base.campaign.state.live = false)
      ∧ (chassis.nv.gens.at 0).begun = false
      ∧ (chassis.onNv fun n => { n with gens := Table.fill 4 ⟨true, false, []⟩ }).nv.gens.at 3 = ⟨true, false, []⟩
      ∧ ready.port.arm = some .certCommit ∧ ready.campaign.state = .done ∧ ready.campaign.certified = false
      ∧ ready.campaign.origin ≠ none ∧ ready.nv.state = .idle ∧ (ready.nv.certs.at 0).begun = false
      ∧ (List.replicate 8 (0#8 : Byte)).length = 8 ∧ chassis.campaign.state ≠ .done := by decide +kernel

theorem witness_StoreWritesComplete :
    let w : NvWrite := ⟨2, withCheck [3#8]⟩
    let s := base.onNv fun n => { n with state := .burning, write := some w }
    s.held = none ∧ s.nv.write = some w ∧ s.nv.state = .burning ∧ (s.nv.gens.at w.slot).done = false
      ∧ readBack [] w.bytes = w.bytes ∧ intact w.bytes = true ∧ readBack [(0, 9#8)] w.bytes ≠ w.bytes
      ∧ (nvAt .writingCert s).nv.state = .writingCert ∧ ((nvAt .writingCert s).nv.certs.at w.slot).done = false := by
  decide +kernel

theorem witness_BurnedMapLoads (k : LinkIx) :
    (fourLinks.at k).inUse = true ∨ fourLinks.at k = LinkRecord.unused := by
  simp only [fourLinks, Table.at_put, Table.at_fill]
  split_ifs <;> simp

/-- Generation slots 0 and 1 DONE, slot 1 not intact. -/
def twoBurned : State :=
  base.onNv fun n =>
    { n with gens := (n.gens.put 0 ⟨true, true, withCheck [1#8]⟩).put 1 ⟨true, true, [2#8]⟩ }

theorem witness_ResetsLeave :
    (twoBurned.nv.gens.at 0).done = true ∧ intact (twoBurned.nv.gens.at 0).body = true
      ∧ (twoBurned.nv.gens.at 1).done = true ∧ intact (twoBurned.nv.gens.at 1).body = false
      ∧ (∀ n, intact (base.nv.gens.at n).body = false)
      ∧ (heldBy .power base).held = some .power ∧ (heldBy .pin base).held ≠ some .power ∧ base.held = none := by
  decide +kernel

/-- A RESTART accepted while the map is CHECKING, its reply being sent. -/
def restarting : State := replyAt .sending ((mapAt .checking chassis).onCampaign fun c => { c with restartDue := true })

theorem witness_RestartRuns :
    (∀ s ∈ [armedFor .restart chassis, armedFor .restart (nvAt .writingCert chassis)], asksFrom31 s)
      ∧ (armedFor .restart chassis).port.arm = some .restart ∧ chassis.nv.state = .idle
      ∧ (nvAt .writingCert chassis).nv.state ≠ .idle
      ∧ restarting.held = none ∧ restarting.port.line = .replying ∧ restarting.port.replyPhase = .sending
      ∧ restarting.campaign.restartDue = true ∧ restarting.map.status = .checking := by decide +kernel

/-! ## Witnesses of the laws: the commissioning run's COLLECTING meets each, and a step follows -/

/-- COLLECTING with a command waiting. -/
def collectingDue : State := { collecting with pending := [.reportDeadline] }

theorem witness_step : ∃ t, step collectingDue = .next t := ⟨_, rfl⟩

theorem witness_OutputsStayLawful : RunningLaw collectingDue ∧ StrobeLaw collectingDue ∧ LampLaw collectingDue := by
  refine ⟨?_, ?_, ?_⟩
  · unfold RunningLaw; decide +kernel
  · unfold StrobeLaw; decide +kernel
  · unfold LampLaw; decide +kernel

theorem witness_FindingsStayLawful : FindingsLaw (withFindings 1) ∧ CounterLaw (withFindings 1) := by
  refine ⟨?_, ?_⟩
  · unfold FindingsLaw; decide +kernel
  · unfold CounterLaw; decide +kernel

/-- A burn into slot 2 in flight. -/
def burning : State :=
  base.onNv fun n =>
    { n with
      state := .burning, write := some ⟨2, withCheck [3#8]⟩
      gens := (n.gens.put 0 ⟨true, true, withCheck [1#8]⟩).put 2 ⟨true, false, []⟩ }

theorem witness_MarksAreNeverCleared : (∃ t, step burning = .next t) ∧ StoreLaw burning := by
  refine ⟨⟨_, rfl⟩, by decide +kernel, by decide +kernel, ?_, ?_⟩
  · intro w _ hw
    obtain rfl : w = ⟨2, withCheck [3#8]⟩ := (Option.some.inj hw).symm
    rfl
  · intro w hs _
    cases hs

/-- A scan is about to grant a lawful map VALID. -/
def scanning : State := { checkingOne false with pending := [.scanComplete] }

theorem witness_MarksAreNeverCleared_map :
    WorkingMapLaw scanning.map ∧ GenerationLaw scanning.nv
      ∧ (∀ dominant low decay rest, scanning.pending = .powerReset dominant low decay :: rest →
          GenerationLaw (decay.foldl NvStore.decayed scanning.nv))
      ∧ ∃ t, step scanning = .next t := by
  have hd : ∀ n : NvIx, (scanning.nv.gens.at n).done = false := by decide +kernel
  refine ⟨⟨by decide +kernel, ?_, fun _ => rfl, ?_, fun _ => rfl⟩, ⟨?_, ?_⟩, ?_, ⟨_, rfl⟩⟩
  · intro k
    have h : scanning.map.links = (Table.fill 480 LinkRecord.unused).put 479 ⟨true, ⟨0, 1⟩, ⟨1, 47⟩, 0, .ab⟩ := rfl
    rw [h, Table.at_put]
    split
    · exact .inl rfl
    · exact .inr (Table.at_fill ..)
  · intro h; cases h
  · intro n h; rw [hd n] at h; cases h
  · intro w h; cases h
  · intro d l x rest h; cases h

theorem witness_ReferencesStayInRange: ReferenceLaw reported := by unfold ReferenceLaw; decide +kernel

theorem witness_PlansStayLawful : TrialLaw collecting ∧ collecting.planner.trials ≠ [] := by
  refine ⟨⟨by decide +kernel, by decide +kernel, ?_, by decide +kernel, by decide +kernel⟩, by decide +kernel⟩
  have h : ∀ n : Slot, (channelsIn collecting.planner.snapshot n).all
      (fun c => decide (listensAt collecting.planner.trials n ≤ c)) = true := by decide +kernel
  intro n c hc
  have := h n
  rw [hc] at this
  simpa using this

theorem collecting_results : collecting.results = Results.cleared := by
  have hb : ∀ x, (beginCollecting (strobesLow (beginPhase1 x))).results = x.results := fun _ => rfl
  have hf : ∀ n x, (fetched n x).results = x.results := fun _ _ => rfl
  have hs : ∀ x, (startCampaign x).results = Results.cleared := fun _ => rfl
  rw [collecting, hb, congrArg State.results (withdraw_frame _), threeFetched, hf, hf, hf, announced,
    planEnds_results, building, hs]

theorem witness_AttemptsStayLimited :
    (RunningLaw collectingDue ∧ EmptyLaw collectingDue ∧ QueueLaw collectingDue ∧ AttemptLaw collectingDue)
      ∧ CountLaw collectingDue := by
  refine ⟨⟨?_, ?_, ?_, ?_⟩, ?_⟩
  · unfold RunningLaw; decide +kernel
  · unfold EmptyLaw; decide +kernel
  · unfold QueueLaw; decide +kernel
  · have hr : ∀ l : LegIx, collectingDue.results.records.at l = LegResult.resetForm := by
      intro l
      rw [collectingDue, collecting_results]
      exact Table.at_fill ..
    refine ⟨by decide +kernel, by decide +kernel, ?_, ?_⟩
    · intro l _
      rw [hr]
      exact ⟨rfl, Nat.zero_le _⟩
    · intro l
      rw [hr]
      exact Nat.zero_le _
  · have h : CountLaw base := by
      refine ⟨?_, by decide +kernel, by decide +kernel⟩
      have h0 : ∀ v : Verdict, base.results.records.toList.countP (fun r => r.settled && r.verdict == v) = 0 := by
        intro v
        refine List.countP_eq_zero.mpr fun r hr => ?_
        have hf : base.results.records = Table.fill 960 LegResult.resetForm := rfl
        rw [hf, Table.fill, Vector.toList_replicate] at hr
        rw [List.eq_of_mem_replicate hr]
        exact Bool.false_ne_true
      have hc : ∀ i : Fin 9, base.results.counts.at i = 0 := by decide +kernel
      intro v i _
      rw [hc, h0]
    have hb : Results.cleared = base.results := rfl
    have hd : collectingDue.results = base.results := by rw [collectingDue, collecting_results, hb]
    rw [CountLaw, settledCount, hd]
    exact h

/-- WAITING with every leg pending, and the wait expires. -/
def expiring : State := { allPending with pending := [.waitExpiry] }

theorem witness_NoLegIsLost :
    (RunningLaw collectingDue ∧ EmptyLaw collectingDue ∧ QueueLaw collectingDue ∧ AccountLaw collectingDue
        ∧ ReportLaw collectingDue)
      ∧ collectingDue.epoch.state.measured ∧ heldTrials collectingDue ≠ [] := by
  have hc : ∀ n : Slot, collectingDue.epoch.received.at n = [] ∧ (collectingDue.nodes.probes.at n).cursor = 0 := by
    decide +kernel
  refine ⟨⟨?_, ?_, ?_, ?_, ?_, ?_, ?_, ?_⟩, trivial, by decide +kernel⟩
  · unfold RunningLaw; decide +kernel
  · unfold EmptyLaw; decide +kernel
  · unfold QueueLaw; decide +kernel
  · unfold AccountLaw; decide +kernel
  · intro _ n
    rw [(hc n).1, (hc n).2]
    exact ⟨rfl, Nat.zero_le _, fun i e v _ h => by simp at h⟩
  · intro h; revert h; decide +kernel
  · decide +kernel
  · intro _; decide +kernel

theorem witness_NoLegIsLost_done :
    (RunningLaw expiring ∧ EmptyLaw expiring ∧ QueueLaw expiring ∧ AccountLaw expiring ∧ ReportLaw expiring)
      ∧ expiring.campaign.state.live = true ∧ got (step expiring) (·.campaign.state) = some .done := by
  refine ⟨⟨?_, ?_, ?_, ?_, ?_, ?_, ?_, ?_⟩, by decide +kernel, by decide +kernel⟩
  · unfold RunningLaw; decide +kernel
  · unfold EmptyLaw; decide +kernel
  · unfold QueueLaw; decide +kernel
  · unfold AccountLaw; decide +kernel
  · intro h; exact absurd rfl h
  · intro h; revert h; decide +kernel
  · have h0 : heldTrials expiring = [] := by decide +kernel
    intro y h
    rw [h0] at h
    cases h
  · intro h; exact h.elim

/-- A return is pending in WAITING, and the wait expires. -/
def returning : State :=
  { allPending.onTimebase (fun t => { t with returnPending := true }) with pending := [.waitExpiry] }

theorem witness_ReturnsOnlyBetweenEpochs :
    returning.timebase.source = .backup ∧ got (step returning) (·.timebase.source) = some .reference := by
  decide +kernel

theorem witness_ProbesCannotReach :
    addressOf 0#8 ≠ 31 ∧ addressOf 30#8 ≠ 31
      ∧ got (exec (requestRow .enrol 0#8 (bytes [1, 6, 0, 0, 0])) chassis) (·.port.line) = some .replying := by
  decide +kernel

end Sys2Proof.Tests
end

section
/-! The law of the findings and of the counters, kept by every step. The law is read block by block (`Bounded`), each
shared operation keeps it, and a step is one of the operations. -/

namespace Sys2Proof.Machine

/-! ## The law, block by block -/

theorem satInc_le {max n : Nat} (h : n ≤ max) : satInc max n ≤ max := by
  unfold satInc; split <;> omega

/-- The counters of the port within their maxima (R17). -/
structure Port.Counted (p : Port) : Prop where
  checkErrors : p.checkErrors ≤ 65535
  framingErrors : p.framingErrors ≤ 65535
  noiseEvents : p.noiseEvents ≤ 65535
  breaks : p.breaks ≤ 65535
  collisions : p.collisions ≤ 65535
  lineFaults : p.lineFaults ≤ 65535

/-- The silence timer and the miss counts within their maxima (R19, R26). -/
structure NodeTable.Counted (nt : NodeTable) : Prop where
  silence : nt.silence ≤ Config.silenceMicros
  misses : ∀ n : Slot, (nt.probes.at n).misses ≤ 7

/-- The supervision counts within their maxima (R139). -/
structure Rail.Counted (r : Rail) : Prop where
  sagCount : r.sagCount ≤ 65535
  voidTotal : r.voidTotal ≤ 65535
  consecutive : r.consecutive ≤ 255

/-- What names a finding record: its kind and lane end (R154). -/
def Finding.key (f : Finding) : FindingKind × Option LaneEnd := (f.kind, f.laneEnd)

/-- At most 64 records, no key twice, hits of 1 to 255, the overflow count within its maximum (R154). -/
structure Findings.Counted (fl : Findings) : Prop where
  length : fl.list.length ≤ 64
  keys : (fl.list.map Finding.key).Nodup
  hits : ∀ f ∈ fl.list, 1 ≤ f.hits ∧ f.hits ≤ 255
  overflow : fl.overflow ≤ 65535

/-- `FindingsLaw` and `CounterLaw`, block by block. -/
structure Bounded (s : State) : Prop where
  port : s.port.Counted
  nodes : s.nodes.Counted
  number : s.campaign.number ≤ 255
  findings : s.findings.Counted
  rail : s.rail.Counted
  losses : s.timebase.lossCount ≤ 65535

theorem bounded_iff (s : State) : Bounded s ↔ FindingsLaw s ∧ CounterLaw s := by
  have keys : (s.findings.list.map Finding.key).Nodup
      ↔ s.findings.list.Pairwise (fun f g => ¬(f.kind = g.kind ∧ f.laneEnd = g.laneEnd)) := by
    simp [List.Nodup, List.pairwise_map, Finding.key]
  constructor
  · rintro ⟨⟨h1, h2, h3, h4, h5, h6⟩, ⟨h7, h8⟩, h9, ⟨h10, h11, h12, h13⟩, ⟨h14, h15, h16⟩, h17⟩
    exact ⟨⟨h10, keys.1 h11, h12⟩, ⟨h1, h2, h3, h4, h5, h6⟩, ⟨h14, h15, h16⟩, h17, h9, h13, h7, h8⟩
  · rintro ⟨⟨h10, h11, h12⟩, ⟨h1, h2, h3, h4, h5, h6⟩, ⟨h14, h15, h16⟩, h17, h9, h13, h7, h8⟩
    exact ⟨⟨h1, h2, h3, h4, h5, h6⟩, ⟨h7, h8⟩, h9, ⟨h10, keys.2 h11, h12, h13⟩, ⟨h14, h15, h16⟩, h17⟩

/-! ## The port -/

section
variable {p : Port}

theorem Port.afterReset_counted (dominant : Bool) : (Port.afterReset dominant).Counted :=
  ⟨Nat.zero_le _, Nat.zero_le _, Nat.zero_le _, Nat.zero_le _, Nat.zero_le _, Nat.zero_le _⟩

theorem Port.framingError_counted (h : p.Counted) : p.framingError.Counted :=
  { h with framingErrors := satInc_le h.framingErrors }

theorem Port.checkError_counted (h : p.Counted) : p.checkError.Counted :=
  { h with checkErrors := satInc_le h.checkErrors }

theorem Port.seeEdge_counted (h : p.Counted) : p.seeEdge.Counted := by
  unfold Port.seeEdge
  split
  · exact { h with }
  · exact h

theorem Port.stuckWaits_counted (h : p.Counted) : p.stuckWaits.Counted := by
  unfold Port.stuckWaits
  split
  · exact { h with }
  · exact h

/-- A pulse keeps the bounds if what its class does keeps them. -/
theorem Port.pulse_counted {f : Port → Port} (hf : ∀ {q : Port}, q.Counted → (f q).Counted) (h : p.Counted) :
    (p.pulse f).Counted := by
  unfold Port.pulse
  split
  · exact { h with }
  · exact hf (Port.seeEdge_counted h)

theorem Port.markSeen_counted (h : p.Counted) : p.markSeen.Counted := by
  unfold Port.markSeen
  split
  · exact { h with }
  · exact { h with framingErrors := satInc_le h.framingErrors }
  · exact Port.stuckWaits_counted h
  · exact h
  · exact h

theorem Port.noiseSeen_counted (h : p.Counted) : p.noiseSeen.Counted := by
  unfold Port.noiseSeen
  split
  · exact { h with noiseEvents := satInc_le h.noiseEvents }
  · exact { h with noiseEvents := satInc_le h.noiseEvents }
  · exact Port.stuckWaits_counted h
  · exact h
  · exact h

theorem Port.receiveBit_counted (b : Bool) (spacing : Nat) (h : p.Counted) : (p.receiveBit b spacing).Counted := by
  have hb : (p.appendBit b).Counted := by
    unfold Port.appendBit
    split <;> exact { h with }
  unfold Port.receiveBit
  split
  · exact Port.framingError_counted h
  · split
    · exact Port.framingError_counted h
    · exact hb

theorem Port.pulseSeen_counted (width spacing : Nat) (h : p.Counted) : (p.pulseSeen width spacing).Counted := by
  have hr : (p.receivePulse width spacing).Counted := by
    unfold Port.receivePulse
    split
    · exact Port.receiveBit_counted _ _ h
    · exact Port.framingError_counted h
    all_goals exact h
  unfold Port.pulseSeen
  split
  · exact hr
  · split
    · exact Port.stuckWaits_counted h
    · exact h
  all_goals exact h

theorem Port.breakEnds_counted (h : p.Counted) : p.breakEnds.Counted := by
  unfold Port.breakEnds
  split
  · exact { h with breaks := satInc_le h.breaks }
  · exact Port.stuckWaits_counted h

theorem Port.stuckClears_counted (h : p.Counted) : p.stuckClears.Counted := by
  unfold Port.stuckClears
  split
  · exact { h with }
  · exact h

theorem Port.completeReply_counted (dominant : Bool) (h : p.Counted) : (p.completeReply dominant).Counted := by
  unfold Port.completeReply
  split <;> exact { h with }

theorem Port.collide_counted (h : p.Counted) : p.collide.Counted :=
  { h with collisions := satInc_le h.collisions }

end

/-! ## The node table -/

section
variable {nt : NodeTable}

theorem NodeTable.put_counted {n : Slot} {r : NodeRecord} (h : nt.Counted) (hr : r.misses ≤ 7) :
    NodeTable.Counted { nt with probes := nt.probes.put n r } where
  silence := h.silence
  misses m := by
    rw [Table.at_put]
    split
    · exact hr
    · exact h.misses m

theorem NodeTable.afterReset_counted (pins : Table PresenceFilter 20) : (NodeTable.afterReset pins).Counted where
  silence := Nat.zero_le _
  misses n := by simp [NodeTable.afterReset, NodeRecord.afterReset]

theorem NodeRecord.missed_misses {r : NodeRecord} (p8 : Nat) (h : r.misses ≤ 7) : (r.missed p8).misses ≤ 7 :=
  satInc_le h

theorem silenceLater_le (h : nt.Counted) : silenceLater nt ≤ Config.silenceMicros := by
  unfold silenceLater
  split
  · exact satInc_le h.silence
  · exact h.silence

end

/-! ## The findings list -/

theorem Finding.hasKey_iff (f : Finding) (p : Presentation) : f.hasKey p = true ↔ f.key = (p.kind, p.laneEnd) := by
  simp [Finding.hasKey, Finding.key]

@[simp] theorem Finding.hit_key (f : Finding) (p : Presentation) : (f.hit p).key = f.key := rfl

/-- The hit goes to the first record of the key (R157). -/
theorem recordHit_some {p : Presentation} {fs gs : List Finding} (h : recordHit p fs = some gs) :
    ∃ before f rest, fs = before ++ f :: rest ∧ f.hasKey p = true ∧ gs = before ++ f.hit p :: rest := by
  induction fs generalizing gs with
  | nil => simp [recordHit] at h
  | cons f fs ih =>
    unfold recordHit at h
    split at h
    · obtain rfl := Option.some.inj h
      exact ⟨[], f, fs, rfl, ‹_›, rfl⟩
    · obtain ⟨gs', hgs, rfl⟩ := Option.map_eq_some_iff.1 h
      obtain ⟨before, g, rest, rfl, hg, rfl⟩ := ih hgs
      exact ⟨f :: before, g, rest, rfl, hg, rfl⟩

/-- No hit is added exactly where no record holds the key (R156). -/
theorem recordHit_none {p : Presentation} {fs : List Finding} :
    recordHit p fs = none ↔ ∀ f ∈ fs, f.hasKey p = false := by
  induction fs with
  | nil => simp [recordHit]
  | cons f fs ih => by_cases hf : f.hasKey p = true <;> simp [recordHit, hf, ih]

theorem Findings.cleared_counted : Findings.cleared.Counted :=
  ⟨Nat.zero_le _, List.nodup_nil, fun _ h => absurd h List.not_mem_nil, Nat.zero_le _⟩

/-- A hit keeps the keys; a new record has a key of its own and is added below 64 records alone (R154, R156). -/
theorem Findings.after_counted {fl : Findings} (m : MapStore) (p : Presentation) (h : fl.Counted) :
    (fl.after m p).Counted := by
  unfold Findings.after
  split
  next gs hgs =>
    obtain ⟨before, f, rest, hfs, -, rfl⟩ := recordHit_some hgs
    have hlen := h.length
    have hkeys := h.keys
    have hhits := h.hits
    rw [hfs] at hlen hkeys hhits
    refine { h with length := by simpa using hlen, keys := by simpa using hkeys, hits := ?_ }
    have hf := hhits f (by simp)
    have hit : 1 ≤ (f.hit p).hits ∧ (f.hit p).hits ≤ 255 :=
      ⟨by simp only [Finding.hit, satInc]; split <;> omega, satInc_le hf.2⟩
    intro g hg
    rcases List.mem_append.1 hg with hg | hg
    · exact hhits g (by simp [hg])
    · rcases List.mem_cons.1 hg with rfl | hg
      · exact hit
      · exact hhits g (by simp [hg])
  next hnone =>
    rw [recordHit_none] at hnone
    split
    next hlt =>
      have hnew : (newFinding m p).key ∉ fl.list.map Finding.key := by
        rintro hmem
        obtain ⟨f, hf, hkey⟩ := List.mem_map.1 hmem
        exact Bool.false_ne_true ((hnone f hf).symm.trans ((f.hasKey_iff p).2 hkey))
      refine { h with length := by simp; omega, keys := ?_, hits := ?_ }
      · simpa using h.keys.concat hnew
      · intro g hg
        rcases List.mem_append.1 hg with hg | hg
        · exact h.hits g hg
        · obtain rfl := List.mem_singleton.1 hg
          exact ⟨le_refl 1, by simp [newFinding]⟩
    next => exact { h with overflow := satInc_le h.overflow }

/-! ## The shared operations -/

section
variable {s : State}

theorem present_bounded (p : Presentation) (h : Bounded s) : Bounded (present p s) := by
  unfold present
  split
  · exact { h with findings := Findings.after_counted _ _ h.findings }
  · exact h

theorem presentAll_bounded (ps : List Presentation) (h : Bounded s) : Bounded (presentAll ps s) := by
  induction ps generalizing s with
  | nil => exact h
  | cons p ps ih => exact ih (present_bounded p h)

theorem applyReturn_bounded (h : Bounded s) : Bounded (applyReturn s) := by
  rw [applyReturn_frame]
  split <;> exact { h with }

theorem enterPaused_bounded (h : Bounded s) : Bounded (enterPaused s) := { h with }

theorem enterWaiting_bounded (h : Bounded s) : Bounded (enterWaiting s) :=
  { h with losses := (applyReturn_bounded h).losses }

theorem enterDone_bounded (h : Bounded s) : Bounded (enterDone s) :=
  { h with losses := (applyReturn_bounded h).losses }

theorem startPlanBuild_bounded (h : Bounded s) : Bounded (startPlanBuild s) :=
  { h with
    nodes := ⟨h.nodes.silence, fun n => by
      rw [startPlanBuild_frame]
      simpa [NodeRecord.freshEpoch] using h.nodes.misses n⟩
    losses := (applyReturn_bounded h).losses }

theorem closeEpoch_bounded (normal : Bool) (h : Bounded s) : Bounded (closeEpoch normal s) := by
  have hrail : Rail.Counted { s.rail with consecutive := if normal then 0 else s.rail.consecutive } :=
    { h.rail with consecutive := by cases normal <;> simp [h.rail.consecutive] }
  have key : ∀ {u : State}, Bounded u → Bounded (decideAfterClose u) := by
    intro u hu
    rcases decideAfterClose_cases u with ⟨_, e⟩ | ⟨_, _, _, e⟩ | ⟨_, _, e⟩ <;> rw [e]
    · exact enterPaused_bounded hu
    · exact enterDone_bounded hu
    · exact startPlanBuild_bounded hu
  exact key { h with rail := hrail }

theorem decideAfterSettle_bounded (h : Bounded s) : Bounded (decideAfterSettle s) := by
  rcases decideAfterSettle_cases s with ⟨_, e⟩ | ⟨_, _, e⟩ <;> rw [e]
  · exact enterPaused_bounded h
  · exact startPlanBuild_bounded h

theorem enterVoid_bounded (cause : VoidCause) (h : Bounded s) : Bounded (enterVoid cause s) := by
  cases cause with
  | line => exact { h with rail := { h.rail with voidTotal := satInc_le h.rail.voidTotal } }
  | rail =>
    unfold enterVoid countVoid
    rw [placeRailCause_frame]
    refine { present_bounded (s := State.onRail _ _) _ ?_ with }
    exact { h with rail :=
      { h.rail with voidTotal := satInc_le h.rail.voidTotal, consecutive := satInc_le h.rail.consecutive } }

theorem stationChange_bounded (h : Bounded s) : Bounded (stationChange s) := by
  unfold stationChange
  split <;> exact { h with }

theorem lineFault_bounded (h : Bounded s) : Bounded (lineFault s) := by
  unfold lineFault
  split
  · split
    case h_7 | h_8 | h_9 => exact { h with }
    all_goals exact enterVoid_bounded .line (s := addLineCause s) { h with }
  all_goals exact { h with }

theorem transitionIntoActive_bounded (h : Bounded s) : Bounded (transitionIntoActive s) := by
  unfold transitionIntoActive
  split
  · exact startPlanBuild_bounded { h with }
  · exact h

theorem mapEdit_bounded (h : Bounded s) : Bounded (mapEdit s) := by
  unfold mapEdit
  split
  · have hr : Bounded { s with results := Results.cleared, findings := Findings.cleared } :=
      { h with findings := Findings.cleared_counted }
    exact { hr with losses := (applyReturn_bounded h).losses }
  · exact h

theorem takeMiss_bounded (n : Slot) (h : Bounded s) : Bounded (takeMiss n s) :=
  { h with nodes := NodeTable.put_counted h.nodes (NodeRecord.missed_misses _ (h.nodes.misses n)) }

theorem missAll_bounded (ns : List Slot) (h : Bounded s) : Bounded (missAll ns s) := by
  induction ns generalizing s with
  | nil => exact h
  | cons n ns ih => exact ih (takeMiss_bounded n h)

end

end Sys2Proof.Machine
end

section
/-! What an owner can leave: for each request that can change the state, the one change it makes beside leaving the
state alone, with the campaign and store states in which it does (R12, step 5). -/

namespace Sys2Proof.Machine

section
variable (payload : List Byte) (s : State)

/-! ## Owners that change nothing -/

theorem answerStatus_state : (answerStatus payload s).1 = s := by
  unfold answerStatus
  split
  · split_ifs <;> rfl
  · rfl

theorem answerIdent_state : (answerIdent payload s).1 = s := by
  unfold answerIdent
  split <;> rfl

theorem answerParamGet_state : (answerParamGet payload s).1 = s := by
  unfold answerParamGet
  split
  · split
    · rfl
    · split <;> rfl
  · rfl

theorem answerMapRead_state : (answerMapRead payload s).1 = s := by
  unfold answerMapRead
  split
  · split <;> rfl
  · rfl

theorem answerCertRead_state : (answerCertRead payload s).1 = s := by
  unfold answerCertRead
  split
  · split_ifs <;> rfl
  · rfl

theorem answerResultRead_state : (answerResultRead payload s).1 = s := by
  unfold answerResultRead
  split
  · split_ifs <;> rfl
  · rfl

theorem answerFindingRead_state : (answerFindingRead payload s).1 = s := by
  unfold answerFindingRead
  split
  · split <;> rfl
  · rfl

/-! ## Owners that change the nodes, the port or the parameters -/

theorem answerEnrol_state (who : Sender) :
    (answerEnrol who payload s).1 = s
      ∨ (∃ n channels, who = .probe n ∧ (answerEnrol who payload s).1 = enrolProbe n channels s)
      ∨ ∃ how identity, who = .station ∧ (answerEnrol who payload s).1 = enrolStation how identity s := by
  unfold answerEnrol
  split
  · cases who with
    | probe n =>
      dsimp only
      split_ifs
      · exact .inl rfl
      · exact .inl rfl
      · exact .inr (.inl ⟨n, _, rfl, rfl⟩)
      · exact .inl rfl
    | station =>
      dsimp only
      split_ifs
      · exact .inl rfl
      · exact .inl rfl
      · split
        · exact .inl rfl
        · exact .inr (.inr ⟨_, _, rfl, rfl⟩)
  · exact .inl rfl

theorem answerLeave_state (who : Sender) :
    (answerLeave who payload s).1 = s
      ∨ (∃ n, who = .probe n ∧ (answerLeave who payload s).1 = probeLeaves n s)
      ∨ (who = .station ∧ (answerLeave who payload s).1 = stationLeaves s) := by
  unfold answerLeave
  split
  · exact .inl rfl
  · cases who with
    | probe n => exact .inr (.inl ⟨n, rfl, rfl⟩)
    | station => exact .inr (.inr ⟨rfl, rfl⟩)

theorem answerArm_state :
    (answerArm payload s).1 = s ∨ ∃ a, (answerArm payload s).1 = s.onPort fun p => { p with arm := some a } := by
  unfold answerArm
  split
  · split
    · exact .inr ⟨_, rfl⟩
    · exact .inl rfl
  · exact .inl rfl

theorem answerParamSet_state :
    (answerParamSet payload s).1 = s
      ∨ ∃ n r v, paramOf n = some r ∧ paramBarred s n = false
          ∧ (answerParamSet payload s).1 = s.onCampaign fun c => { c with params := c.params.store r v } := by
  unfold answerParamSet
  split
  · split
    · exact .inl rfl
    · split
      · exact .inl rfl
      · exact .inr ⟨_, _, _, ‹_›, Bool.eq_false_iff.2 ‹_›, rfl⟩
  · exact .inl rfl

/-! ## Owners of the map and of the store -/

theorem answerMapWrite_state :
    (answerMapWrite payload s).1 = s
      ∨ ∃ start records, s.campaign.state.settled = true ∧ ¬(s.map.status = .checking ∨ s.nv.state ≠ .idle)
          ∧ (answerMapWrite payload s).1 = mapEdit (s.onMap fun m => m.edited start records) := by
  unfold answerMapWrite
  split
  · exact .inl rfl
  · split
    · split
      · exact .inl rfl
      · split_ifs with hsize hset hbusy
        · exact .inl rfl
        · exact .inl rfl
        · exact .inr ⟨_, _, hset, hbusy, rfl⟩
        · exact .inl rfl
    · exact .inl rfl

theorem answerMapValidate_state :
    (answerMapValidate payload s).1 = s
      ∨ (s.campaign.state.settled = true ∧ ¬(s.map.status = .checking ∨ s.nv.state ≠ .idle)
          ∧ (answerMapValidate payload s).1 = s.onMap MapStore.checking) := by
  unfold answerMapValidate
  split_ifs with hp hset hbusy
  · exact .inl rfl
  · exact .inl rfl
  · exact .inr ⟨hset, hbusy, rfl⟩
  · exact .inl rfl

theorem answerMapBurn_state :
    (answerMapBurn payload s).1 = s
      ∨ ∃ n, s.map.status = .valid ∧ s.campaign.state.settled = true ∧ s.nv.state = .idle
          ∧ lowestFree s.nv.gens = some n ∧ (answerMapBurn payload s).1 = beginBurn n s := by
  unfold answerMapBurn
  split_ifs with hp hset hidle
  · exact .inl rfl
  · exact .inl rfl
  · split
    · exact .inl rfl
    · exact .inr ⟨_, hset.1, hset.2, not_not.1 hidle, ‹_›, rfl⟩
  · exact .inl rfl

theorem answerCertCommit_state :
    (answerCertCommit payload s).1 = s
      ∨ ∃ c, s.campaign.state = .done ∧ s.nv.state = .idle ∧ lowestFree s.nv.certs = some c
          ∧ (answerCertCommit payload s).1 = beginCertificate c payload s := by
  unfold answerCertCommit
  split_ifs with hp hset hidle
  · exact .inl rfl
  · exact .inl rfl
  · split
    · exact .inl rfl
    · exact .inr ⟨_, hset.1, not_not.1 hidle, ‹_›, rfl⟩
  · exact .inl rfl

/-! ## Owners of the campaign and of the epoch -/

theorem answerStart_state :
    (answerStart payload s).1 = s
      ∨ (s.campaign.state.live = false ∧ (startCauses s).isEmpty = true
          ∧ (answerStart payload s).1 = startCampaign s) := by
  unfold answerStart
  split_ifs with hp hlive hcauses
  · exact .inl rfl
  · exact .inl rfl
  · exact .inr ⟨by simpa using hlive, hcauses, rfl⟩
  · exact .inl rfl

theorem answerPause_state :
    (answerPause payload s).1 = s
      ∨ (s.campaign.state = .running
          ∧ (answerPause payload s).1 = s.onCampaign fun c => { c with pausePending := true })
      ∨ (s.campaign.state = .waiting ∧ (answerPause payload s).1 = enterPaused s) := by
  unfold answerPause
  split
  · exact .inl rfl
  · split
    · exact .inr (.inl ⟨‹_›, rfl⟩)
    · exact .inr (.inr ⟨‹_›, rfl⟩)
    all_goals exact .inl rfl

theorem answerResume_state :
    (answerResume payload s).1 = s
      ∨ (s.campaign.state = .paused ∧ (answerResume payload s).1 = resumeCampaign s) := by
  unfold answerResume
  split
  · exact .inl rfl
  · split
    case h_6 =>
      split
      · exact .inr ⟨‹_›, rfl⟩
      · exact .inl rfl
    all_goals exact .inl rfl

theorem answerAbort_state :
    (answerAbort payload s).1 = s
      ∨ (s.campaign.state.live = true ∧ (answerAbort payload s).1 = abortCampaign s) := by
  unfold answerAbort
  split_ifs with hp hlive
  · exact .inl rfl
  · exact .inr ⟨hlive, rfl⟩
  · exact .inl rfl

theorem answerRestart_state :
    (answerRestart payload s).1 = s
      ∨ (s.nv.state = .idle
          ∧ (answerRestart payload s).1 = s.onCampaign fun c => { c with restartDue := true }) := by
  unfold answerRestart
  split_ifs with hp hidle
  · exact .inl rfl
  · exact .inl rfl
  · exact .inr ⟨not_not.1 hidle, rfl⟩

theorem answerFetch_state (n : Slot) :
    (answerFetch n payload s).1 = s
      ∨ (s.epoch.state = .announce ∧ (answerFetch n payload s).1 = completeFetch n s) := by
  unfold answerFetch
  split
  · split
    · exact .inl rfl
    · split_ifs with hplan hann hduty
      · exact .inl rfl
      · exact .inl rfl
      · exact .inl rfl
      · split
        · exact .inl rfl
        · unfold serveDuty
          split
          · exact .inr ⟨not_not.1 hann, rfl⟩
          · exact .inl rfl
  · exact .inl rfl

theorem answerReport_state (n : Slot) :
    (answerReport n payload s).1 = s
      ∨ ∃ bytes run values, walk (s.planner.entries.at n) (s.nodes.probes.at n).cursor bytes = some run
          ∧ runValues run = some values ∧ (s.epoch.state = .collecting ∨ s.epoch.state = .grace)
          ∧ (answerReport n payload s).1 = acceptRun n values s := by
  unfold answerReport
  split
  · split
    · exact .inl rfl
    · split_ifs with hduty hstate hstand
      · exact .inl rfl
      · unfold reportRun
        split
        · unfold reportAtCursor
          split
          · exact .inl rfl
          · split
            · exact .inl rfl
            · split
              · exact .inl rfl
              · exact .inr ⟨_, _, _, ‹_›, ‹_›, hstate, rfl⟩
        · exact .inl rfl
      · exact .inl rfl
      · exact .inl rfl
  · exact .inl rfl

end

/-! ## Taking a request -/

/-- A request is refused with the state left alone, or answered by its owner (R12). -/
theorem decideRequest_state (header kind : Byte) (armed : Bool) (payload : List Byte) (s : State) :
    (decideRequest header kind armed payload s).1 = s
      ∨ ∃ k who, RequestKind.ofByte kind = some k ∧ senderOf header = some who
          ∧ acceptance k who armed s.nodes = none
          ∧ (decideRequest header kind armed payload s).1 = (ownerAnswers k who payload s).1 := by
  unfold decideRequest
  split
  · exact .inl rfl
  · split
    · exact .inl rfl
    · unfold passOn
      split
      · exact .inl rfl
      · exact .inr ⟨_, _, ‹_›, ‹_›, ‹_›, rfl⟩

end Sys2Proof.Machine
end

section
/-! Every command and every idle step keeps the law of the findings and the counters. -/

namespace Sys2Proof.Machine

section
variable {s : State}

/-! ## The requests -/

theorem setProbe_bounded {r : NodeRecord} (n : Slot) (h : Bounded s) (hr : r.misses ≤ 7) :
    Bounded (setProbe n r s) :=
  { h with nodes := NodeTable.put_counted h.nodes hr }

theorem enrolProbe_bounded (n : Slot) (channels : Nat) (h : Bounded s) : Bounded (enrolProbe n channels s) := by
  have hset : Bounded (setProbe n ((s.nodes.probes.at n).enrolled channels) s) :=
    setProbe_bounded n h (Nat.zero_le _)
  unfold enrolProbe
  split
  · exact hset
  · exact transitionIntoActive_bounded hset

theorem enrolStation_bounded (how : Admission) (identity : Nat) (h : Bounded s) :
    Bounded (enrolStation how identity s) := by
  have hadmit : Bounded (admitStation identity s) := { h with nodes := ⟨Nat.zero_le _, h.nodes.misses⟩ }
  cases how with
  | fresh => exact transitionIntoActive_bounded hadmit
  | again => exact hadmit
  | takeover => exact stationChange_bounded hadmit

theorem probeLeaves_bounded (n : Slot) (h : Bounded s) : Bounded (probeLeaves n s) :=
  setProbe_bounded n h (h.nodes.misses n)

theorem stationLeaves_bounded (h : Bounded s) : Bounded (stationLeaves s) :=
  stationChange_bounded { h with nodes := ⟨Nat.zero_le _, h.nodes.misses⟩ }

theorem startCampaign_bounded (h : Bounded s) : Bounded (startCampaign s) := by
  have hopen : Bounded (openCampaign (clearForStart s)) :=
    { port := { h.port with lineFaults := Nat.zero_le _ }
      nodes := h.nodes
      number := satInc_le h.number
      findings := Findings.cleared_counted
      rail := ⟨Nat.zero_le _, Nat.zero_le _, Nat.zero_le _⟩
      losses := Nat.zero_le _ }
  exact startPlanBuild_bounded { hopen with }

theorem abortCampaign_bounded (h : Bounded s) : Bounded (abortCampaign s) :=
  { h with losses := (applyReturn_bounded h).losses }

theorem completeFetch_bounded (n : Slot) (h : Bounded s) : Bounded (completeFetch n s) :=
  { h with nodes := NodeTable.put_counted h.nodes (h.nodes.misses n) }

theorem gradeTrial_bounded (t : Trial) (h : Bounded s) : Bounded (gradeTrial s t) := by
  unfold gradeTrial
  split
  · unfold gradeWith
    simp only
    rw [markGraded_frame, settleOrRetest_frame]
    exact { presentAll_bounded _ h with }
  · exact h

theorem gradeTrials_bounded (ts : List Trial) (h : Bounded s) : Bounded (ts.foldl gradeTrial s) := by
  induction ts generalizing s with
  | nil => exact h
  | cons t ts ih => exact ih (gradeTrial_bounded t h)

theorem completeReport_bounded (n : Slot) (h : Bounded s) : Bounded (completeReport n s) :=
  gradeTrials_bounded _ { h with nodes := NodeTable.put_counted h.nodes (Nat.zero_le _) }

theorem acceptRun_bounded (n : Slot) (values : List EntryValue) (h : Bounded s) :
    Bounded (acceptRun n values s) := by
  have hrun : Bounded (storeRun n values s) :=
    { h with nodes := NodeTable.put_counted h.nodes (h.nodes.misses n) }
  unfold acceptRun
  split
  · unfold closeIfDone
    split
    · exact closeEpoch_bounded true (completeReport_bounded n hrun)
    · exact completeReport_bounded n hrun
  · exact hrun

theorem ownerAnswers_bounded (k : RequestKind) (who : Sender) (payload : List Byte) (h : Bounded s) :
    Bounded (ownerAnswers k who payload s).1 := by
  cases k with
  | enrol =>
    rcases answerEnrol_state payload s who with e | ⟨n, channels, _, e⟩ | ⟨how, identity, _, e⟩ <;>
      rw [ownerAnswers, e]
    · exact h
    · exact enrolProbe_bounded n channels h
    · exact enrolStation_bounded how identity h
  | leave =>
    rcases answerLeave_state payload s who with e | ⟨n, _, e⟩ | ⟨_, e⟩ <;> rw [ownerAnswers, e]
    · exact h
    · exact probeLeaves_bounded n h
    · exact stationLeaves_bounded h
  | status => rw [ownerAnswers, answerStatus_state]; exact h
  | ident => rw [ownerAnswers, answerIdent_state]; exact h
  | arm =>
    rcases answerArm_state payload s with e | ⟨a, e⟩ <;> rw [ownerAnswers, e]
    · exact h
    · exact { h with port := { h.port with } }
  | paramSet =>
    rcases answerParamSet_state payload s with e | ⟨n, r, v, _, _, e⟩ <;> rw [ownerAnswers, e]
    · exact h
    · exact { h with }
  | paramGet => rw [ownerAnswers, answerParamGet_state]; exact h
  | mapWrite =>
    rcases answerMapWrite_state payload s with e | ⟨start, records, _, _, e⟩ <;> rw [ownerAnswers, e]
    · exact h
    · exact mapEdit_bounded { h with }
  | mapRead => rw [ownerAnswers, answerMapRead_state]; exact h
  | mapValidate =>
    rcases answerMapValidate_state payload s with e | ⟨_, _, e⟩ <;> rw [ownerAnswers, e]
    · exact h
    · exact { h with }
  | mapBurn =>
    rcases answerMapBurn_state payload s with e | ⟨n, _, _, _, _, e⟩ <;> rw [ownerAnswers, e]
    · exact h
    · exact { h with }
  | campaignStart =>
    rcases answerStart_state payload s with e | ⟨_, _, e⟩ <;> rw [ownerAnswers, e]
    · exact h
    · exact startCampaign_bounded h
  | campaignPause =>
    rcases answerPause_state payload s with e | ⟨_, e⟩ | ⟨_, e⟩ <;> rw [ownerAnswers, e]
    · exact h
    · exact { h with }
    · exact enterPaused_bounded h
  | campaignResume =>
    rcases answerResume_state payload s with e | ⟨_, e⟩ <;> rw [ownerAnswers, e]
    · exact h
    · exact startPlanBuild_bounded { h with }
  | campaignAbort =>
    rcases answerAbort_state payload s with e | ⟨_, e⟩ <;> rw [ownerAnswers, e]
    · exact h
    · exact abortCampaign_bounded h
  | fetch =>
    cases who with
    | probe n =>
      rcases answerFetch_state payload s n with e | ⟨_, e⟩ <;> rw [ownerAnswers, probeOnly, e]
      · exact h
      · exact completeFetch_bounded n h
    | station => exact h
  | report =>
    cases who with
    | probe n =>
      rcases answerReport_state payload s n with e | ⟨_, _, values, _, _, _, e⟩ <;> rw [ownerAnswers, probeOnly, e]
      · exact h
      · exact acceptRun_bounded n values h
    | station => exact h
  | resultRead => rw [ownerAnswers, answerResultRead_state]; exact h
  | findingRead => rw [ownerAnswers, answerFindingRead_state]; exact h
  | certCommit =>
    rcases answerCertCommit_state payload s with e | ⟨c, _, _, _, e⟩ <;> rw [ownerAnswers, e]
    · exact h
    · exact { h with }
  | certRead => rw [ownerAnswers, answerCertRead_state]; exact h
  | restart =>
    rcases answerRestart_state payload s with e | ⟨_, e⟩ <;> rw [ownerAnswers, e]
    · exact h
    · exact { h with }

theorem replied_bounded (header : Byte) (a : Answer) (h : Bounded s) : Bounded (replied header a s) := by
  have hnodes : (replied header a s).nodes.Counted := by
    unfold replied
    split
    · exact ⟨Nat.zero_le _, h.nodes.misses⟩
    · exact h.nodes
  exact { h with port := { h.port with }, nodes := hnodes }

theorem takeRequest_bounded (header kind : Byte) (payload : List Byte) (h : Bounded s) :
    Bounded (takeRequest header kind payload s) := by
  have hheard : Bounded (presentToArm s) := { h with port := { h.port with } }
  rw [takeRequest, ← Prod.mk.eta (p := decideRequest _ _ _ _ _), reply_eq_replied]
  refine replied_bounded _ _ ?_
  rcases decideRequest_state header kind (marksArmed s.port.arm header kind) payload (presentToArm s) with
    e | ⟨k, who, _, _, _, e⟩ <;> rw [e]
  · exact hheard
  · exact ownerAnswers_bounded k who payload hheard

theorem deliver_bounded (header kind : Byte) (payload : List Byte) (h : Bounded s) :
    Bounded (deliver header kind payload s) := by
  unfold deliver
  split
  · exact takeRequest_bounded _ _ _ { h with port := { h.port with } }
  · exact { h with port := Port.framingError_counted h.port }

/-! ## The line and the reply -/

theorem onPort_bounded {f : Port → Port} (hf : (f s.port).Counted) (h : Bounded s) : Bounded (s.onPort f) :=
  { h with port := hf }

theorem endOfData_bounded (h : Bounded s) : Bounded (endOfData s) := by
  unfold endOfData
  split
  · unfold testFrame
    split
    · exact onPort_bounded (Port.framingError_counted h.port) h
    · split
      · exact onPort_bounded (Port.checkError_counted h.port) h
      · exact takeRequest_bounded _ _ _ h
  · exact h

theorem restartReset_bounded (dominant : Bool) (h : Bounded s) : Bounded (restartReset dominant s) :=
  applyReturn_bounded (s := { s with
      port := Port.afterReset dominant
      nodes := NodeTable.afterReset s.nodes.presence
      map := s.map.afterRestart
      campaign := Campaign.afterReset .restart s.campaign.params s.campaign.number
      planner := Planner.afterReset
      epoch := Epoch.afterReset
      grading := Grading.afterReset s.campaign.params
      results := Results.cleared
      findings := Findings.cleared
      rail := Rail.afterReset s.rail.below s.campaign.params })
    { port := Port.afterReset_counted dominant
      nodes := NodeTable.afterReset_counted _
      number := h.number
      findings := Findings.cleared_counted
      rail := ⟨Nat.zero_le _, Nat.zero_le _, Nat.zero_le _⟩
      losses := h.losses }

theorem afterReply_bounded (dominant : Bool) (h : Bounded s) : Bounded (afterReply dominant s) := by
  unfold afterReply
  split
  · exact restartReset_bounded dominant h
  · exact h

theorem replyCollides_bounded (h : Bounded s) : Bounded (replyCollides s) :=
  afterReply_bounded true (onPort_bounded (Port.collide_counted h.port) h)

theorem replyCutOff_bounded (h : Bounded s) : Bounded (replyCutOff s) := by
  unfold replyCutOff
  split
  · exact replyCollides_bounded h
  · exact h

theorem replyStarts_bounded (dominant : Bool) (h : Bounded s) : Bounded (replyStarts dominant s) := by
  unfold replyStarts
  split
  · split
    · exact replyCollides_bounded h
    · exact onPort_bounded { h.port with } h
  · exact h

theorem replyCompletes_bounded (dominant : Bool) (h : Bounded s) : Bounded (replyCompletes dominant s) := by
  unfold replyCompletes
  split
  · exact afterReply_bounded dominant (onPort_bounded (Port.completeReply_counted dominant h.port) h)
  · exact h

theorem levelReaches300_bounded (h : Bounded s) : Bounded (levelReaches300 s) := by
  have hbreak : Bounded ((replyCutOff s).onPort Port.enterBreak) :=
    onPort_bounded { (replyCutOff_bounded h).port with } (replyCutOff_bounded h)
  unfold levelReaches300
  split
  · exact hbreak
  · exact hbreak
  · exact hbreak
  · exact h
  · exact onPort_bounded { h.port with } h

theorem stuckBegins_bounded (h : Bounded s) : Bounded (stuckBegins s) := by
  have hlevel := levelReaches300_bounded h
  have hport : Port.Counted (levelReaches300 s).port.enterStuck :=
    { hlevel.port with lineFaults := satInc_le hlevel.port.lineFaults }
  exact present_bounded _ (lineFault_bounded (onPort_bounded hport hlevel))

theorem levelReaches20ms_bounded (h : Bounded s) : Bounded (levelReaches20ms s) := by
  unfold levelReaches20ms
  split
  · exact onPort_bounded { h.port with } h
  · exact stuckBegins_bounded h

/-! ## The ends of work and the timers -/

theorem completeScan_bounded (h : Bounded s) : Bounded (completeScan s) := by
  unfold completeScan
  split
  · exact { h with }
  · exact h

theorem completeBurn_bounded (flaws : List (Nat × Byte)) (h : Bounded s) : Bounded (completeBurn flaws s) := by
  unfold completeBurn
  split
  · exact { h with }
  · exact h

theorem completeCertificate_bounded (flaws : List (Nat × Byte)) (h : Bounded s) :
    Bounded (completeCertificate flaws s) := by
  unfold completeCertificate
  split
  · exact { h with }
  · exact h

theorem setPresence_bounded (n : Slot) (f : PresenceFilter) (h : Bounded s) : Bounded (setPresence n f s) :=
  { h with nodes := { h.nodes with } }

theorem presenceSeats_bounded (n : Slot) (h : Bounded s) : Bounded (presenceSeats n s) := by
  unfold presenceSeats
  split
  · exact h
  · exact setPresence_bounded _ _ h

theorem presenceLost_bounded (n : Slot) (h : Bounded s) : Bounded (presenceLost n s) := by
  unfold presenceLost
  split
  · exact probeLeaves_bounded n (setPresence_bounded _ _ h)
  · exact h

theorem planEnds_bounded (h : Bounded s) : Bounded (planEnds s) := by
  have hback : ∀ {u : State}, Bounded u → Bounded (giveNumberBack u) := fun hu => { hu with }
  have hdecide : ∀ {u : State}, Bounded u → Bounded (decidePlan u) := by
    intro u hu
    rcases decidePlan_cases u with ⟨_, e⟩ | ⟨_, _, e⟩ | ⟨_, _, _, e⟩ | ⟨_, _, _, e⟩ <;> rw [e]
    · exact enterVoid_bounded .line hu
    · rcases emptyPlan_cases u with ⟨_, e⟩ | ⟨_, _, e⟩ | ⟨_, _, e⟩ <;> rw [e]
      · exact enterDone_bounded (hback hu)
      · exact enterPaused_bounded (hback hu)
      · exact enterWaiting_bounded (hback hu)
    · exact enterPaused_bounded { hu with }
    · exact { hu with }
  unfold planEnds
  split
  · exact hdecide { h with }
  · exact h

theorem waitExpires_bounded (h : Bounded s) : Bounded (waitExpires s) := by
  unfold waitExpires
  split
  · exact enterDone_bounded { h with }
  · exact h

theorem announceEnds_bounded (h : Bounded s) : Bounded (announceEnds s) := by
  have hwith : Bounded (withdraw s) := { missAll_bounded _ (s := returnLegs _ (vacate _ s)) { h with } with }
  unfold announceEnds
  split
  · unfold afterWithdrawal
    split
    · exact closeEpoch_bounded false hwith
    · split
      · exact enterVoid_bounded .rail hwith
      · exact { hwith with }
  · exact h

theorem phase1Ends_bounded (h : Bounded s) : Bounded (phase1Ends s) := by
  unfold phase1Ends
  split
  · split <;> exact { h with }
  · exact h

theorem gapEnds_bounded (h : Bounded s) : Bounded (gapEnds s) := by
  unfold gapEnds
  split
  · exact { h with }
  · exact h

theorem phase2Ends_bounded (h : Bounded s) : Bounded (phase2Ends s) := by
  unfold phase2Ends
  split
  · exact { h with }
  · exact h

theorem deadlineRunsOut_bounded (h : Bounded s) : Bounded (deadlineRunsOut s) := by
  unfold deadlineRunsOut
  split
  · exact { h with }
  · exact h

theorem gradeNoReports_bounded (ts : List Trial) (h : Bounded s) : Bounded (ts.foldl gradeNoReport s) := by
  induction ts generalizing s with
  | nil => exact h
  | cons t ts ih =>
    refine ih ?_
    rw [gradeNoReport_frame]
    exact { h with }

theorem graceEnds_bounded (h : Bounded s) : Bounded (graceEnds s) := by
  unfold graceEnds
  split
  · exact closeEpoch_bounded true (missAll_bounded _ (gradeNoReports_bounded _ h))
  · exact h

theorem voidSettles_bounded (h : Bounded s) : Bounded (voidSettles s) := by
  unfold voidSettles
  split
  · exact decideAfterSettle_bounded { h with }
  · exact h

/-! ## Supervision and the lamp -/

theorem sagFilterExpires_bounded (h : Bounded s) : Bounded (sagFilterExpires s) := by
  have hsag : ∀ {u : State}, Bounded u → Bounded (signalSag u) := by
    intro u hu
    unfold signalSag
    split
    · exact enterVoid_bounded .rail hu
    · exact enterVoid_bounded .rail hu
    · exact enterVoid_bounded .rail hu
    all_goals exact hu
  unfold sagFilterExpires
  split
  · unfold railChanges
    split
    · exact hsag { h with rail := { h.rail with sagCount := satInc_le h.rail.sagCount } }
    · exact { h with rail := { h.rail with } }
  · exact h

theorem comparatorChanges_bounded (below : Bool) (h : Bounded s) : Bounded (comparatorChanges below s) := by
  have hrail : (s.rail.output below (s.p 13)).Counted := by
    unfold Rail.output
    split
    · exact h.rail
    · exact { h.rail with }
  exact { h with rail := hrail }

theorem clockLost_bounded (h : Bounded s) : Bounded (clockLost s) := by
  unfold clockLost
  split
  · unfold loseClock
    split <;> exact { h with losses := satInc_le h.losses }
  · exact h

theorem returnTimerExpires_bounded (h : Bounded s) : Bounded (returnTimerExpires s) := by
  have hrun : Bounded (runReachesP16 s) := { h with }
  unfold returnTimerExpires
  split
  · split
    · exact applyReturn_bounded hrun
    · exact hrun
  · exact h

theorem blinkLamp_bounded (h : Bounded s) : Bounded (blinkLamp s) := by
  unfold blinkLamp
  split
  · exact { h with }
  · exact h

/-! ## The resets, the idle microsecond, the step -/

theorem beginHold_bounded (kind : ResetKind) (h : Bounded s) : Bounded (beginHold kind s) :=
  { h with port := { h.port with } }

theorem finishReset_bounded (kind : ResetKind) (dominant : Bool) (s : State) :
    Bounded (finishReset kind dominant s) where
  port := Port.afterReset_counted dominant
  nodes := NodeTable.afterReset_counted _
  number := Nat.zero_le _
  findings := Findings.cleared_counted
  rail := ⟨Nat.zero_le _, Nat.zero_le _, Nat.zero_le _⟩
  losses := Nat.zero_le _

theorem powerResets_bounded (dominant low : Bool) (decay : List NvDecay) (h : Bounded s) :
    Bounded (powerResets dominant low decay s) := by
  unfold powerResets
  split
  · exact beginHold_bounded .power { h with }
  · exact finishReset_bounded _ _ _

theorem nresetFalls_bounded (h : Bounded s) : Bounded (nresetFalls s) := by
  unfold nresetFalls
  split
  · exact h
  · exact beginHold_bounded .pin h

theorem tick_bounded (h : Bounded s) : Bounded (tick s) :=
  { h with port := { h.port with }, nodes := ⟨silenceLater_le h.nodes, h.nodes.misses⟩, rail := { h.rail with } }

/-- A meaning that acts outside a reset alone keeps what its operation keeps. -/
theorem unlessHeld_keeps {P : State → Prop} {f : State → State} (hf : P s → P (f s)) (h : P s) :
    P (unlessHeld f s) := by
  unfold unlessHeld
  split
  · exact h
  · exact hf h

theorem next_bounded {f : State → State} {t : State} (hf : Bounded s → Bounded (f s)) (h : Bounded s)
    (hx : (.next (unlessHeld f s) : Host.Outcome State Fault Refusal) = .next t) : Bounded t := by
  cases hx
  exact unlessHeld_keeps hf h

theorem exec_bounded {t : State} (c : Instr) (h : Bounded s) (hx : exec c s = .next t) : Bounded t := by
  cases c
  case startMark =>
    exact next_bounded (fun h => onPort_bounded (Port.pulse_counted Port.markSeen_counted h.port) h) h hx
  case endOfData => exact next_bounded endOfData_bounded h hx
  case noiseEvent =>
    exact next_bounded (fun h => onPort_bounded (Port.pulse_counted Port.noiseSeen_counted h.port) h) h hx
  case lineBreak => exact next_bounded levelReaches300_bounded h hx
  case breakEnd => exact next_bounded (fun h => onPort_bounded (Port.breakEnds_counted h.port) h) h hx
  case stuck => exact next_bounded levelReaches20ms_bounded h hx
  case stuckClear => exact next_bounded (fun h => onPort_bounded (Port.stuckClears_counted h.port) h) h hx
  case stuckWaitRestart => exact next_bounded (fun h => onPort_bounded (Port.stuckWaits_counted h.port) h) h hx
  case bitPulse width spacing =>
    exact next_bounded
      (fun h => onPort_bounded (Port.pulse_counted (Port.pulseSeen_counted width spacing) h.port) h) h hx
  case replyStart dominant => exact next_bounded (replyStarts_bounded dominant) h hx
  case replyCollision => exact next_bounded replyCutOff_bounded h hx
  case replyComplete dominant => exact next_bounded (replyCompletes_bounded dominant) h hx
  case endOfFrame => exact next_bounded (fun h => onPort_bounded (Port.seeEdge_counted h.port) h) h hx
  case dominantEdgeAfterReply => exact next_bounded (fun h => onPort_bounded (Port.seeEdge_counted h.port) h) h hx
  case scanComplete => exact next_bounded completeScan_bounded h hx
  case burnComplete flaws => exact next_bounded (completeBurn_bounded flaws) h hx
  case certWriteComplete flaws => exact next_bounded (completeCertificate_bounded flaws) h hx
  case presenceSeated n => exact next_bounded (presenceSeats_bounded n) h hx
  case presenceLoss n => exact next_bounded (presenceLost_bounded n) h hx
  case planEnd => exact next_bounded planEnds_bounded h hx
  case waitExpiry => exact next_bounded waitExpires_bounded h hx
  case announceEnd => exact next_bounded announceEnds_bounded h hx
  case phase1End => exact next_bounded phase1Ends_bounded h hx
  case gapEnd => exact next_bounded gapEnds_bounded h hx
  case phase2End => exact next_bounded phase2Ends_bounded h hx
  case reportDeadline => exact next_bounded deadlineRunsOut_bounded h hx
  case graceEnd => exact next_bounded graceEnds_bounded h hx
  case voidSettleEnd => exact next_bounded voidSettles_bounded h hx
  case sagFilterExpiry => exact next_bounded sagFilterExpires_bounded h hx
  case refclkEdge => exact next_bounded (f := refclkEdge) (fun h => { h with }) h hx
  case clockLoss => exact next_bounded clockLost_bounded h hx
  case returnTimerExpiry => exact next_bounded returnTimerExpires_bounded h hx
  case lampBlink => exact next_bounded blinkLamp_bounded h hx
  case presenceDeparture n low =>
    cases hx
    split <;> exact setPresence_bounded _ _ h
  case rsenseDeparture below =>
    cases hx
    split
    · exact { h with rail := { h.rail with } }
    · exact comparatorChanges_bounded below h
  case powerReset dominant low decay =>
    cases hx
    exact powerResets_bounded dominant low decay h
  case nresetAsserted =>
    cases hx
    exact nresetFalls_bounded h
  case pinReset dominant =>
    cases hx
    exact finishReset_bounded _ _ _
  all_goals exact next_bounded (deliver_bounded _ _ _) h hx

end

/-- Settles O53: the law, read block by block, is kept by the command a step takes and by an idle microsecond. -/
theorem findingsStayLawful : Obligations.FindingsStayLawful := by
  intro s t h hstep
  rw [← bounded_iff] at h ⊢
  cases hp : s.pending with
  | nil =>
    rw [step_nil s hp] at hstep
    cases hstep
    exact unlessHeld_keeps tick_bounded h
  | cons c rest =>
    rw [step_cons c rest s hp] at hstep
    exact exec_bounded (s := { s with pending := rest }) c { h with } hstep

end Sys2Proof.Machine
end

section
/-! The rules of the service line: what each row of the line and of the reply window runs outside a reset, and what
the port's operations do by line state (chapter 1). -/

namespace Sys2Proof.Machine

/-! ## The rows outside a reset -/

section
variable {s : State} (h : s.held = none)
include h

theorem exec_startMark : exec .startMark s = .next (s.onPort (·.pulse Port.markSeen)) :=
  congrArg _ (unlessHeld_of_none h)

theorem exec_noiseEvent : exec .noiseEvent s = .next (s.onPort (·.pulse Port.noiseSeen)) :=
  congrArg _ (unlessHeld_of_none h)

theorem exec_bitPulse (width spacing : Nat) :
    exec (.bitPulse width spacing) s = .next (s.onPort (·.pulse (·.pulseSeen width spacing))) :=
  congrArg _ (unlessHeld_of_none h)

theorem exec_endOfData : exec .endOfData s = .next (endOfData s) := congrArg _ (unlessHeld_of_none h)

theorem exec_lineBreak : exec .lineBreak s = .next (levelReaches300 s) := congrArg _ (unlessHeld_of_none h)

theorem exec_breakEnd : exec .breakEnd s = .next (s.onPort Port.breakEnds) := congrArg _ (unlessHeld_of_none h)

theorem exec_stuck : exec .stuck s = .next (levelReaches20ms s) := congrArg _ (unlessHeld_of_none h)

theorem exec_stuckClear : exec .stuckClear s = .next (s.onPort Port.stuckClears) := congrArg _ (unlessHeld_of_none h)

theorem exec_stuckWaitRestart : exec .stuckWaitRestart s = .next (s.onPort Port.stuckWaits) :=
  congrArg _ (unlessHeld_of_none h)

theorem exec_replyStart (dominant : Bool) : exec (.replyStart dominant) s = .next (replyStarts dominant s) :=
  congrArg _ (unlessHeld_of_none h)

theorem exec_replyCollision : exec .replyCollision s = .next (replyCutOff s) := congrArg _ (unlessHeld_of_none h)

theorem exec_replyComplete (dominant : Bool) : exec (.replyComplete dominant) s = .next (replyCompletes dominant s) :=
  congrArg _ (unlessHeld_of_none h)

theorem exec_endOfFrame : exec .endOfFrame s = .next (s.onPort Port.seeEdge) := congrArg _ (unlessHeld_of_none h)

theorem exec_dominantEdgeAfterReply : exec .dominantEdgeAfterReply s = .next (s.onPort Port.seeEdge) :=
  congrArg _ (unlessHeld_of_none h)

end

/-! ## Pulses by line state -/

section
variable {p : Port}

/-- The end of a level found dominant at the end of a reset changes nothing else (R18, log entry 9). -/
theorem Port.pulse_level (f : Port → Port) (h : p.levelFromReset = true) :
    p.pulse f = { p with levelFromReset := false } := if_pos h

theorem Port.pulse_classed (f : Port → Port) (h : p.levelFromReset = false) : p.pulse f = f p.seeEdge := by
  simp [Port.pulse, h]

theorem Port.seeEdge_complete (hl : p.line = .replying) (hp : p.replyPhase = .complete) : p.seeEdge = p.endReply := by
  simp [Port.seeEdge, Port.awaitsEndOfFrame, hl, hp]

theorem Port.seeEdge_other (h : p.line = .replying → p.replyPhase ≠ .complete) : p.seeEdge = p := by
  simpa [Port.seeEdge, Port.awaitsEndOfFrame] using fun hl hp => absurd hp (h hl)

/-- A pulse on a line that is not REPLYING is classified as the line stands. -/
theorem Port.pulse_not_replying (f : Port → Port) (h : p.levelFromReset = false) (hl : p.line ≠ .replying) :
    p.pulse f = f p := by
  rw [Port.pulse_classed f h, Port.seeEdge_other fun hr => absurd hr hl]

/-- A pulse after a complete reply is classified on an idle line (R7). -/
theorem Port.pulse_complete (f : Port → Port) (h : p.levelFromReset = false) (hl : p.line = .replying)
    (hp : p.replyPhase = .complete) : p.pulse f = f p.endReply := by
  rw [Port.pulse_classed f h, Port.seeEdge_complete hl hp]

theorem Port.markSeen_idle (h : p.line = .idle) :
    p.markSeen = { p with line := .receiving, lineAtStart := .idle, rxBytes := [], rxBits := [] } := by
  simp [Port.markSeen, h, Port.beginFrame, Port.emptyBuffer]

theorem Port.markSeen_receiving (h : p.line = .receiving) :
    p.markSeen = { p with
      lineAtStart := .receiving, rxBytes := [], rxBits := []
      framingErrors := satInc 65535 p.framingErrors } := by
  simp [Port.markSeen, h, Port.beginFrame, Port.emptyBuffer]

theorem Port.markSeen_stuck (h : p.line = .stuck) : p.markSeen = p.stuckWaits := by simp [Port.markSeen, h]

theorem Port.noiseSeen_idle (h : p.line = .idle) :
    p.noiseSeen = { p with noiseEvents := satInc 65535 p.noiseEvents } := by
  simp [Port.noiseSeen, h]

theorem Port.noiseSeen_receiving (h : p.line = .receiving) :
    p.noiseSeen = { p with
      line := .idle, rxBytes := [], rxBits := [], noiseEvents := satInc 65535 p.noiseEvents } := by
  simp [Port.noiseSeen, h, Port.discardFrame, Port.emptyBuffer]

theorem Port.noiseSeen_stuck (h : p.line = .stuck) : p.noiseSeen = p.stuckWaits := by simp [Port.noiseSeen, h]

theorem Port.noiseSeen_ignored (h : p.line = .broken ∨ p.line = .replying) : p.noiseSeen = p := by
  rcases h with h | h <;> simp [Port.noiseSeen, h]

/-! ## Bits -/

/-- A pulse of 2 us to under 10 us is a bit: a 1 below 5 us, a 0 from there (R2). -/
theorem classify_bit {width : Nat} (h2 : 2 ≤ width) (h10 : width < 10) :
    classify width = .bit (decide (width < 5)) := by
  unfold classify
  rw [if_neg (by omega), if_neg (by omega)]
  by_cases h5 : width < 5 <;> simp [h5, h10]

theorem classify_badSymbol {width : Nat} (h10 : 10 ≤ width) (h30 : width < 30) : classify width = .badSymbol := by
  unfold classify
  rw [if_neg (by omega), if_neg (by omega), if_neg (by omega), if_neg (by omega), if_pos h30]

theorem Port.hasSlot_iff : p.hasSlot = true ↔ p.rxBytes ≠ [] ∨ p.rxBits ≠ [] := by
  simp [Port.hasSlot, ← not_and_or]

theorem Port.pulseSeen_idle (width spacing : Nat) (h : p.line = .idle) : p.pulseSeen width spacing = p := by
  simp [Port.pulseSeen, h]

theorem Port.pulseSeen_stuck {width : Nat} (spacing : Nat) (h : p.line = .stuck) (hw : 1 ≤ width) :
    p.pulseSeen width spacing = p.stuckWaits := by
  simp [Port.pulseSeen, h, hw]

theorem Port.pulseSeen_badSymbol {width : Nat} (spacing : Nat) (h : p.line = .receiving) (h10 : 10 ≤ width)
    (h30 : width < 30) : p.pulseSeen width spacing = p.framingError := by
  simp [Port.pulseSeen, h, Port.receivePulse, classify_badSymbol h10 h30]

theorem Port.pulseSeen_bit {width : Nat} (spacing : Nat) (h : p.line = .receiving) (h2 : 2 ≤ width)
    (h10 : width < 10) : p.pulseSeen width spacing = p.receiveBit (decide (width < 5)) spacing := by
  simp [Port.pulseSeen, h, Port.receivePulse, classify_bit h2 h10]

/-- A bit that opens early, or after 34 bytes, is a framing error (R3). -/
theorem Port.receiveBit_error (b : Bool) {spacing : Nat}
    (h : ((p.rxBytes ≠ [] ∨ p.rxBits ≠ []) ∧ spacing < 9) ∨ 34 ≤ p.rxBytes.length) :
    p.receiveBit b spacing = p.framingError := by
  unfold Port.receiveBit
  rw [← Port.hasSlot_iff] at h
  rcases h with h | h
  · rw [if_pos h]
  · rw [if_pos h, ite_self]

theorem Port.receiveBit_received (b : Bool) {spacing : Nat}
    (he : ¬((p.rxBytes ≠ [] ∨ p.rxBits ≠ []) ∧ spacing < 9)) (hl : p.rxBytes.length < 34) :
    p.receiveBit b spacing = p.appendBit b := by
  rw [← Port.hasSlot_iff] at he
  rw [Port.receiveBit, if_neg he, if_neg (by omega)]

/-! ## The reply window -/

theorem Port.replyDue_iff : p.replyDue = true ↔ p.line = .replying ∧ p.replyPhase = .due := by
  simp [Port.replyDue]

theorem Port.replyOpen_iff :
    p.replyOpen = true ↔ p.line = .replying ∧ (p.replyPhase = .due ∨ p.replyPhase = .sending) := by
  simp [Port.replyOpen]

end

section
variable {s : State}

theorem replyCutOff_open (hl : s.port.line = .replying)
    (hp : s.port.replyPhase = .due ∨ s.port.replyPhase = .sending) : replyCutOff s = replyCollides s :=
  if_pos (Port.replyOpen_iff.2 ⟨hl, hp⟩)

theorem replyCutOff_closed (h : s.port.line = .replying → s.port.replyPhase = .complete) : replyCutOff s = s := by
  refine if_neg fun hopen => ?_
  obtain ⟨hl, hp⟩ := Port.replyOpen_iff.1 hopen
  simp [h hl] at hp

/-- A collision with no RESTART waiting is counted and the line is idle (R16). -/
theorem replyCollides_plain (h : s.campaign.restartDue = false) : replyCollides s = s.onPort Port.collide := by
  simp [replyCollides, afterReply, h]

/-- The RESTART that waited for a reply begins where the reply collides (R16, R18). -/
theorem replyCollides_restart (h : s.campaign.restartDue = true) : replyCollides s = restartReset true s := by
  simp [replyCollides, afterReply, h, restartReset]

theorem replyCompletes_plain (dominant : Bool) (hl : s.port.line = .replying) (hp : s.port.replyPhase = .sending)
    (h : s.campaign.restartDue = false) : replyCompletes dominant s = s.onPort (·.completeReply dominant) := by
  have hopen : s.port.replyOpen = true := Port.replyOpen_iff.2 ⟨hl, .inr hp⟩
  simp [replyCompletes, afterReply, h, hopen]

/-- The RESTART that waited for a reply begins where the reply completes (R18, R77). -/
theorem replyCompletes_restart (dominant : Bool) (hl : s.port.line = .replying) (hp : s.port.replyPhase = .sending)
    (h : s.campaign.restartDue = true) : replyCompletes dominant s = restartReset dominant s := by
  have hopen : s.port.replyOpen = true := Port.replyOpen_iff.2 ⟨hl, .inr hp⟩
  simp [replyCompletes, afterReply, h, hopen, restartReset]

/-! ## Break and stuck by line state -/

/-- On a line that is neither BREAK nor STUCK, a level of 300 us cuts an open reply off and is a break (R9, R16). -/
theorem levelReaches300_break (hb : s.port.line ≠ .broken) (hs : s.port.line ≠ .stuck) :
    levelReaches300 s = (replyCutOff s).onPort Port.enterBreak := by
  unfold levelReaches300
  split <;> simp_all

theorem levelReaches300_broken (h : s.port.line = .broken) : levelReaches300 s = s := by
  simp [levelReaches300, h]

theorem levelReaches300_stuck (h : s.port.line = .stuck) : levelReaches300 s = s.onPort Port.stopStuckWait := by
  simp [levelReaches300, h]

theorem levelReaches20ms_stuck (h : s.port.line = .stuck) : levelReaches20ms s = s.onPort Port.stopStuckWait :=
  if_pos h

end

/-! ## The tests of a frame -/

theorem wellStructured_iff (bits : List Bool) (bytes : List Byte) :
    wellStructured bits bytes = true
      ↔ bits = [] ∧ 4 ≤ bytes.length ∧ (bytes.getD 2 0).toNat ≤ 30 ∧ bytes.length = (bytes.getD 2 0).toNat + 4 := by
  simp [wellStructured, byteAt, and_assoc]

theorem checkHolds_iff {bytes : List Byte} (h : bytes ≠ []) :
    checkHolds bytes = true ↔ bytes.getLast? = some (crc8 bytes.dropLast) := by
  have hlast : bytes.getLast? = some (byteAt bytes (bytes.length - 1)) := by
    rw [List.getLast?_eq_getElem?, byteAt, List.getD_eq_getElem?_getD]
    have : bytes.length - 1 < bytes.length := by have := List.length_pos_iff.2 h; omega
    simp [this]
  simp [checkHolds, hlast, List.dropLast_eq_take]

theorem payloadOf_requestFrame (header kind : Byte) (payload : List Byte) :
    payloadOf (requestFrame header kind payload) = payload := by
  simp [payloadOf, requestFrame, frameBody]

/-- A good request frame in the receive buffer is taken as a frame that comes whole (R4, R6, R12, log entry 5). -/
theorem endOfData_eq_deliver {header kind : Byte} {payload : List Byte} {s : State} (hline : s.port.line = .receiving)
    (hfits : payload.length ≤ 30) (hbits : s.port.rxBits = [])
    (hbytes : s.port.rxBytes = requestFrame header kind payload) :
    endOfData s = deliver header kind payload s := by
  obtain ⟨-, hstructure, hcheck⟩ := Laws.Framed.frame_good header kind payload hfits
  have hport : s.port.holdFrame (requestFrame header kind payload) = s.port := by
    rw [Port.holdFrame, if_pos hline, ← hbytes, ← hbits]
  have hhold : s.onPort (fun p => p.holdFrame (requestFrame header kind payload)) = s := by
    rw [State.onPort, hport]
  rw [endOfData, if_pos hline, testFrame, hbits, hbytes, if_neg (not_not.2 hstructure), if_neg (not_not.2 hcheck),
    payloadOf_requestFrame, deliver, if_pos hfits, hhold]
  rfl

end Sys2Proof.Machine
end

section
/-! The statements of the service line (chapter 1). -/

namespace Sys2Proof.Machine

/-- Settles O4: every row but the input levels and the resets acts outside a reset alone. -/
theorem resetInProgressIgnores : Obligations.ResetInProgressIgnores := by
  intro c s hheld hpresence hrsense hpower hpin hnreset
  have ignored : ∀ f : State → State,
      (.next (unlessHeld f s) : Host.Outcome State Fault Refusal) = .next s :=
    fun f => congrArg _ (unlessHeld_of_some hheld)
  cases c
  case presenceDeparture n low => exact absurd rfl (hpresence n low)
  case rsenseDeparture below => exact absurd rfl (hrsense below)
  case powerReset d l x => exact absurd rfl (hpower d l x)
  case pinReset d => exact absurd rfl (hpin d)
  case nresetAsserted => exact absurd rfl hnreset
  all_goals exact ignored _

/-- Settles O6: the pulse by the port's level and line state. -/
theorem startMarkBeginsFrame : Obligations.StartMarkBeginsFrame := by
  refine ⟨fun s hheld hlevel => ?_, fun s hheld hlevel => ?_⟩
  · rw [exec_startMark hheld, State.onPort, Port.pulse_level _ hlevel]
  rw [exec_startMark hheld, State.onPort]
  refine ⟨fun hline => ?_, fun hline => ?_, fun hline hphase => ?_⟩
  · rw [Port.pulse_not_replying _ hlevel (by simp [hline]), Port.markSeen_idle hline]
  · rw [Port.pulse_not_replying _ hlevel (by simp [hline]), Port.markSeen_receiving hline]
  · rw [Port.pulse_complete _ hlevel hline hphase, Port.markSeen_idle rfl]
    rfl

/-- Settles O7: outside RECEIVING by the port's level and line state; in RECEIVING by the width's class, the spacing
and the room in the buffer. -/
theorem bitPulseReceives : Obligations.BitPulseReceives := by
  refine ⟨fun width spacing s hheld => ⟨fun hlevel => ?_, fun hlevel hline hphase => ?_⟩, ?_⟩
  · rw [exec_bitPulse hheld, State.onPort, Port.pulse_level _ hlevel]
  · rw [exec_bitPulse hheld, State.onPort, Port.pulse_complete _ hlevel hline hphase, Port.pulseSeen_idle _ _ rfl]
    rfl
  intro width spacing s hheld hlevel hline h2 h30 early bits
  rw [exec_bitPulse hheld, State.onPort, Port.pulse_not_replying _ hlevel (by simp [hline])]
  have received (h10 : width < 10) (hearly : ¬early) (hroom : s.port.rxBytes.length < 34) :
      s.port.pulseSeen width spacing = s.port.appendBit (decide (width < 5)) := by
    rw [Port.pulseSeen_bit spacing hline h2 h10, Port.receiveBit_received _ hearly hroom]
  refine ⟨fun hbad => ?_, fun h10 hearly hroom hbits => ?_, fun h10 hearly hroom hbits => ?_⟩
  · have herror : s.port.pulseSeen width spacing = s.port.framingError := by
      rcases Nat.lt_or_ge width 10 with h10 | h10
      · rw [Port.pulseSeen_bit spacing hline h2 h10]
        exact Port.receiveBit_error _ (hbad.resolve_left (by omega))
      · exact Port.pulseSeen_badSymbol spacing hline h10 h30
    rw [herror]
    rfl
  · rw [received h10 hearly hroom, Port.appendBit, if_pos hbits]
  · rw [received h10 hearly hroom, Port.appendBit, if_neg hbits]

/-- Settles O8: noise by the port's level and line state, a break by whether a reply is open, its end by BREAK. -/
theorem disturbancesCount : Obligations.DisturbancesCount := by
  intro s hheld broken
  have hbreak (hb : s.port.line ≠ .broken) (hs : s.port.line ≠ .stuck) :
      exec .lineBreak s = .next ((replyCutOff s).onPort Port.enterBreak) := by
    rw [exec_lineBreak hheld, levelReaches300_break hb hs]
  refine ⟨fun hlevel => ?noise, fun hlevel => ?_, fun hline => ?_, fun hline hphase => ?_, fun hline => ?_⟩
  case noise =>
    rw [exec_noiseEvent hheld, State.onPort]
    refine ⟨fun hline => ?_, fun hline => ?_, fun hline hphase => ?_, fun hopen => ?_⟩
    · rw [Port.pulse_not_replying _ hlevel (by simp [hline]), Port.noiseSeen_idle hline]
    · rw [Port.pulse_not_replying _ hlevel (by simp [hline]), Port.noiseSeen_receiving hline]
    · rw [Port.pulse_complete _ hlevel hline hphase, Port.noiseSeen_idle rfl]
      rfl
    · have hedge : s.port.seeEdge = s.port := by
        rcases hopen with hline | ⟨hline, hphase⟩
        · exact Port.seeEdge_other fun hr => by simp [hline] at hr
        · exact Port.seeEdge_other fun _ => hphase
      rw [Port.pulse_classed _ hlevel, hedge, Port.noiseSeen_ignored (hopen.imp_right And.left)]
  · rw [exec_noiseEvent hheld, State.onPort, Port.pulse_level _ hlevel]
  · have hother : s.port.line ≠ .broken ∧ s.port.line ≠ .stuck := by
      rcases hline with h | h | ⟨h, _⟩ <;> simp [h]
    have hclosed : s.port.line = .replying → s.port.replyPhase = .complete := by
      rcases hline with h | h | ⟨_, hphase⟩
      · simp [h]
      · simp [h]
      · exact fun _ => hphase
    rw [hbreak hother.1 hother.2, replyCutOff_closed hclosed]
    rfl
  · rw [hbreak (by simp [hline]) (by simp [hline]), replyCutOff_open hline hphase]
    refine ⟨fun hrestart => ?_, fun hrestart => ?_⟩
    · rw [replyCollides_plain hrestart]
      rfl
    · rw [replyCollides_restart hrestart]
      rfl
  · rw [exec_breakEnd hheld, State.onPort, Port.breakEnds, if_pos hline]

/-- Settles O11: the start, the collision, the completion and the end of a reply, with and without a RESTART. -/
theorem replyWindow : Obligations.ReplyWindow := by
  constructor
  · intro s hheld hline hphase
    have hdue : s.port.replyDue = true := Port.replyDue_iff.2 ⟨hline, hphase⟩
    rw [exec_replyStart hheld, exec_replyStart hheld, replyStarts, replyStarts, if_pos hdue, if_pos hdue]
    refine ⟨rfl, fun hplain => ?_, fun hrestart => ?_⟩
    · rw [if_pos rfl, replyCollides_plain hplain]
      rfl
    · rw [if_pos rfl, replyCollides_restart hrestart]
  intro s hheld hline ended
  refine ⟨fun hphase hplain => ?_, fun hphase hrestart => ?_, fun hphase => ?_⟩
  · rw [exec_replyCollision hheld, exec_replyComplete hheld, exec_replyComplete hheld,
      replyCutOff_open hline (.inr hphase), replyCollides_plain hplain, replyCompletes_plain _ hline hphase hplain,
      replyCompletes_plain _ hline hphase hplain]
    exact ⟨rfl, rfl, rfl⟩
  · refine ⟨?_, fun dominant => ?_⟩
    · rw [exec_replyCollision hheld, replyCutOff_open hline (.inr hphase), replyCollides_restart hrestart]
    · rw [exec_replyComplete hheld, replyCompletes_restart _ hline hphase hrestart]
  · rw [exec_endOfFrame hheld, exec_dominantEdgeAfterReply hheld, State.onPort, Port.seeEdge_complete hline hphase]
    exact ⟨rfl, rfl⟩

/-- Settles O10: the structure tests, the check byte test, and the frame that passes both. -/
theorem endOfDataTests : Obligations.EndOfDataTests := by
  refine ⟨?_, fun k header payload s hheld hline hfits hbits hbytes => ?_,
    fun header kind payload s hheld hline hfits hbits hbytes _ => ?_⟩
  · intro s hheld hline bytes structured
    have hstructured : wellStructured s.port.rxBits s.port.rxBytes = true ↔ structured := wellStructured_iff _ _
    rw [exec_endOfData hheld, endOfData, if_pos hline, testFrame]
    refine ⟨fun hbad => ?_, fun hgood hcheck => ?_⟩
    · rw [if_pos (mt hstructured.1 hbad)]
      rfl
    · have hne : bytes ≠ [] := List.ne_nil_of_length_pos (by have := hgood.2.1; omega)
      rw [if_neg (not_not.2 (hstructured.2 hgood)), if_pos (mt (checkHolds_iff hne).1 hcheck)]
      rfl
  · rw [exec_endOfData hheld, exec_requestRow, unlessHeld_of_none hheld, endOfData_eq_deliver hline hfits hbits hbytes]
  · rw [exec_endOfData hheld, exec_unknownKind, unlessHeld_of_none hheld,
      endOfData_eq_deliver hline hfits hbits hbytes]

end Sys2Proof.Machine
end

section
/-! The RESTART (R77, R78): the request, and the reset at the end of its reply. -/

namespace Sys2Proof.Machine

theorem answerRestart_accepted {s : State} (h : s.nv.state = .idle) :
    answerRestart [] s = (s.onCampaign fun c => { c with restartDue := true }, ⟨.ok, []⟩) := by
  simp [answerRestart, h]

theorem answerRestart_busy {s : State} (h : s.nv.state ≠ .idle) :
    answerRestart [] s = (s, .refusal .busy) := by
  simp [answerRestart, h]

theorem answerRestart_malformed {payload : List Byte} (s : State) (h : payload ≠ []) :
    answerRestart payload s = (s, .refusal .malformed) := if_pos h

/-- An armed RESTART of the ACTIVE station reaches its owner (R30, R33). -/
theorem exec_restart_armed {header : Byte} {payload : List Byte} {s : State} (hmay : stationMay header s)
    (harm : s.port.arm = some .restart) (hfits : payload.length ≤ 30) :
    exec (.restart header payload) s
      = .next (replied header (answerRestart payload (heard header 0x70#8 payload s)).2
          (answerRestart payload (heard header 0x70#8 payload s)).1) :=
  exec_station (k := .restart) hmay hfits (by decide) (by decide) fun _ => by rw [harm]; rfl

/-- What a RESTART reset leaves, block by block (R18, R78, R148). -/
theorem restartReset_frame (dominant : Bool) (s : State) :
    restartReset dominant s = { s with
      port := { Port.afterReset false with levelFromReset := dominant }
      nodes := NodeTable.afterReset s.nodes.presence
      map := s.map.afterRestart
      campaign := { s.campaign with
        state := .idle, causes := ⟨false, false, false⟩, pausePending := false, retestLimit := s.p 6, origin := none
        waitTimer := none, result := .none, certified := false, lastReset := .restart
        lamps := ⟨false, false, false⟩, blinkTimer := none, restartDue := false }
      planner := Planner.afterReset
      epoch := Epoch.afterReset
      grading := ⟨Table.fill 20 (s.p 11 * 256), Table.fill 20 (s.p 11 * 256), s.campaign.params.thresholds⟩
      results := Results.cleared
      findings := Findings.cleared
      rail := ⟨.ok, if s.rail.below then some (s.p 13) else none, 0, 0, 0, s.rail.below⟩
      timebase := if s.timebase.returnPending
        then { s.timebase with source := .reference, returnPending := false } else s.timebase } := rfl

/-- Settles O50: the owner's three answers, and the reset the completed reply begins. -/
theorem restartRuns : Obligations.RestartRuns := by
  constructor
  · intro header s hmay harm
    refine ⟨fun hidle => ?_, fun hbusy => ?_, fun payload hfits hne => ?_⟩
    · rw [exec_restart_armed hmay harm (Nat.zero_le _), answerRestart_accepted (by simpa using hidle)]
    · rw [exec_restart_armed hmay harm (Nat.zero_le _), answerRestart_busy (by simpa using hbusy)]
      rfl
    · rw [exec_restart_armed hmay harm hfits, answerRestart_malformed _ hne]
      rfl
  · intro dominant s hheld hline hphase hdue
    refine ⟨restartReset dominant s, ?_, restartReset_frame dominant s, fun hmap => ?_, fun hmap => ?_⟩
    · rw [exec_replyComplete hheld, replyCompletes_restart dominant hline hphase hdue]
    · exact if_neg hmap
    · exact if_pos hmap

end Sys2Proof.Machine
end

section
/-! The stuck episode (R10, R11): the line fault by campaign and epoch state, the finding, and the 1 ms wait. -/

namespace Sys2Proof.Machine

/-! ## The line fault -/

section
variable {s : State}

theorem lineFault_idle (h : s.campaign.state.live = false) : lineFault s = s := by
  unfold lineFault
  split <;> simp_all [CampaignState.live]

theorem lineFault_waiting (h : s.campaign.state = .waiting) : lineFault s = enterPaused (addLineCause s) := by
  simp [lineFault, h]

theorem lineFault_paused (h : s.campaign.state = .paused) : lineFault s = addLineCause s := by
  simp [lineFault, h]

/-- In RUNNING a line fault adds its cause, and what else it does it does to the epoch and the rail (R67). -/
theorem lineFault_running (h : s.campaign.state = .running) :
    lineFault s = { addLineCause s with epoch := (lineFault s).epoch, rail := (lineFault s).rail } := by
  simp only [lineFault, h]
  split <;> rfl

/-- An epoch past its plan build and not yet void is voided (R116). -/
theorem lineFault_open (h : s.campaign.state = .running)
    (he : s.epoch.state ∈ [EpochState.announce, .phase1, .gap, .phase2, .collecting, .grace]) :
    lineFault s = enterVoid .line (addLineCause s) := by
  simp only [List.mem_cons, List.not_mem_nil, or_false] at he
  rcases he with he | he | he | he | he | he <;> simp [lineFault, h, he]

/-- A plan build in flight is marked to be voided (R93). -/
theorem lineFault_planning (h : s.campaign.state = .running) (he : s.epoch.state = .planning) :
    lineFault s = (addLineCause s).onEpoch fun e => { e with buildVoid := true } := by
  simp [lineFault, h, he]

theorem lineFault_void (h : s.campaign.state = .running) (he : s.epoch.state = .void) :
    lineFault s = addLineCause s := by
  simp [lineFault, h, he]

/-- A line fault neither reads nor changes the port. -/
theorem lineFault_onPort (f : Port → Port) (s : State) : lineFault (s.onPort f) = (lineFault s).onPort f := by
  simp only [lineFault, State.onPort_campaign, State.onPort_epoch]
  split
  · split <;> rfl
  all_goals rfl

theorem lineFault_number (s : State) : (lineFault s).epoch.number = s.epoch.number := by
  unfold lineFault
  split
  · split <;> rfl
  all_goals rfl

theorem lineFault_causes (h : s.campaign.state.live = true) :
    (lineFault s).campaign.causes = { s.campaign.causes with line := true } := by
  cases hc : s.campaign.state with
  | running => rw [lineFault_running hc]; rfl
  | waiting => rw [lineFault_waiting hc]; rfl
  | paused => rw [lineFault_paused hc]; rfl
  | idle => simp [CampaignState.live, hc] at h
  | done => simp [CampaignState.live, hc] at h
  | aborted => simp [CampaignState.live, hc] at h

theorem lineFault_live (s : State) : (lineFault s).campaign.state.live = s.campaign.state.live := by
  cases hc : s.campaign.state with
  | running => rw [lineFault_running hc]; exact congrArg _ hc
  | waiting => rw [lineFault_waiting hc]; rfl
  | paused => rw [lineFault_paused hc]; exact congrArg _ hc
  | idle => rw [lineFault_idle (by rw [hc]; rfl), hc]
  | done => rw [lineFault_idle (by rw [hc]; rfl), hc]
  | aborted => rw [lineFault_idle (by rw [hc]; rfl), hc]

/-! ## The episode begins -/

/-- What STUCK leaves on a line that is BREAK: the port, the line fault, the finding of the epoch number (R10). -/
def stuckEntered (s : State) : State :=
  present (lineStuckPresentation s.epoch.number) ((lineFault s).onPort Port.enterStuck)

theorem levelReaches20ms_broken (h : s.port.line = .broken) : levelReaches20ms s = stuckEntered s := by
  rw [levelReaches20ms, if_neg (by simp [h]), stuckBegins, levelReaches300_broken h, lineFault_onPort]
  simp only [State.onPort_epoch, lineFault_number, stuckEntered]

theorem stuckEntered_idle (h : s.campaign.state.live = false) : stuckEntered s = s.onPort Port.enterStuck := by
  rw [stuckEntered, lineFault_idle h]
  exact present_idle _ h

theorem stuckEntered_frame (s : State) :
    stuckEntered s = { s with
      port := (stuckEntered s).port, epoch := (stuckEntered s).epoch, rail := (stuckEntered s).rail
      findings := (stuckEntered s).findings, campaign := (stuckEntered s).campaign
      planner := (stuckEntered s).planner } := by
  rw [stuckEntered, present_frame, lineFault_frame]
  rfl

theorem stuckEntered_port (s : State) : (stuckEntered s).port = s.port.enterStuck := by
  rw [stuckEntered, present_frame, lineFault_frame]
  rfl

/-- The presentation touches findings and lamps alone: the rest is as the line fault leaves it. -/
theorem stuckEntered_fault (s : State) :
    (stuckEntered s).epoch = (lineFault s).epoch ∧ (stuckEntered s).rail = (lineFault s).rail
      ∧ (stuckEntered s).planner = (lineFault s).planner
      ∧ (stuckEntered s).campaign.causes = (lineFault s).campaign.causes
      ∧ (stuckEntered s).campaign.state = (lineFault s).campaign.state := by
  rw [stuckEntered, present_frame]
  exact ⟨rfl, rfl, rfl, rfl, rfl⟩

theorem stuckEntered_findings (h : s.campaign.state.live = true) :
    (stuckEntered s).findings = s.findings.after s.map (lineStuckPresentation s.epoch.number) := by
  have hlive : ((lineFault s).onPort Port.enterStuck).campaign.state.live = true := (lineFault_live s).trans h
  rw [stuckEntered, present_live _ hlive, lineFault_frame]
  rfl

/-- In RUNNING the campaign keeps all but its causes and lamps; no blink runs (R71). -/
theorem stuckEntered_running (h : s.campaign.state = .running) :
    (stuckEntered s).campaign = { s.campaign with
      causes := (stuckEntered s).campaign.causes, lamps := (stuckEntered s).campaign.lamps, blinkTimer := none } := by
  rw [stuckEntered, lineFault_running h, present, if_pos (by simp [addLineCause, h, CampaignState.live])]
  simp [showLamps, addLineCause, State.onCampaign, State.onFindings, State.onPort, h]

/-! ## The 1 ms wait -/

theorem mem_dueNow (t : Option Nat) (c d : Instr) : c ∈ dueNow t d ↔ t = some 1 ∧ c = d := by
  by_cases h : t = some 1 <;> simp [dueNow, runsOut, h]

/-- STUCK_CLEAR falls due exactly where the 1 ms wait runs out: no other timer brings it (R11). -/
theorem stuckClear_mem_eventsNow (s : State) : .stuckClear ∈ eventsNow s ↔ s.port.stuckWait = some 1 := by
  have hpresence : Instr.stuckClear ∉ presenceEvents s.nodes.presence := by
    simp only [presenceEvents, List.mem_flatMap, mem_dueNow, presenceEvent, not_exists, not_and]
    intro nf _ _
    split <;> simp
  have hepoch : Instr.stuckClear ∉ if runsOut s.epoch.timer then epochTimerEvent s.epoch.state else [] := by
    split
    · cases s.epoch.state <;> simp [epochTimerEvent]
    · simp
  simp only [eventsNow, List.mem_append, mem_dueNow]
  simp [hpresence, hepoch]

theorem tick_pending_mem (h : s.pending = []) (c : Instr) : c ∈ (tick s).pending ↔ c ∈ eventsNow s := by
  simp [tick, h, (arrange_perm _ _).mem_iff]

end

/-- Settles O9: the episode begins by campaign and epoch state; in it each row of the line acts on the wait alone. -/
theorem stuckEpisode : Obligations.StuckEpisode := by
  intro s hheld port openEpoch
  refine ⟨fun hline => ⟨fun hidle => ?idle, fun hlive => ?live⟩, fun hline => ?stuck⟩
  case idle =>
    rw [exec_stuck hheld, levelReaches20ms_broken hline, stuckEntered_idle hidle]
    rfl
  case live =>
    obtain ⟨hepoch, hrail, hplanner, hcauses, hstate⟩ := stuckEntered_fault s
    refine ⟨stuckEntered s, ?_, stuckEntered_port s, ?_, stuckEntered_findings hlive, stuckEntered_frame s,
      fun hrun => ⟨stuckEntered_running hrun, ?_, fun hopen => ?_, fun hplan => ?_, fun hvoid => ?_⟩,
      fun hwait => ?_⟩
    · rw [exec_stuck hheld, levelReaches20ms_broken hline]
    · rw [hcauses, lineFault_causes hlive]
    · rw [hplanner, lineFault_running hrun]
      rfl
    · rw [hepoch, hrail, lineFault_open hrun hopen]
      exact ⟨rfl, rfl⟩
    · rw [hepoch, hrail, lineFault_planning hrun hplan]
      exact ⟨rfl, rfl⟩
    · rw [hepoch, hrail, lineFault_void hrun hvoid]
      exact ⟨rfl, rfl⟩
    · rw [hstate, hplanner, hrail, hepoch]
      rcases hwait with hwait | hpaused
      · rw [lineFault_waiting hwait]
        exact ⟨rfl, rfl, rfl, rfl⟩
      · rw [lineFault_paused hpaused]
        exact ⟨hpaused, rfl, rfl, rfl⟩
  case stuck =>
    intro again stopped
    have hnot : s.port.line ≠ .replying := by simp [hline]
    have hagain : s.onPort Port.stuckWaits = again := by rw [State.onPort, Port.stuckWaits_stuck hline]; rfl
    refine ⟨?_, ?_, fun hlevel => ⟨?_, ?_, fun width spacing hwidth => ?_⟩, ?_, ?_, fun hpending => ?_, ?_⟩
    · rw [exec_stuckWaitRestart hheld, hagain]
    · rw [exec_breakEnd hheld, State.onPort, Port.breakEnds, if_neg (by simp [hline]), ← hagain]
      rfl
    · rw [exec_noiseEvent hheld, State.onPort, Port.pulse_not_replying _ hlevel hnot, Port.noiseSeen_stuck hline,
        ← hagain]
      rfl
    · rw [exec_startMark hheld, State.onPort, Port.pulse_not_replying _ hlevel hnot, Port.markSeen_stuck hline,
        ← hagain]
      rfl
    · rw [exec_bitPulse hheld, State.onPort, Port.pulse_not_replying _ hlevel hnot,
        Port.pulseSeen_stuck spacing hline hwidth, ← hagain]
      rfl
    · rw [exec_lineBreak hheld, levelReaches300_stuck hline]
      rfl
    · rw [exec_stuck hheld, levelReaches20ms_stuck hline]
      rfl
    · refine ⟨tick s, ?_, rfl, ?_⟩
      · rw [step_nil s hpending, idleStep, unlessHeld_of_none hheld]
      · rw [tick_pending_mem hpending, stuckClear_mem_eventsNow]
    · rw [exec_stuckClear hheld, State.onPort, Port.stuckClears, if_pos hline]

end Sys2Proof.Machine
end

section
/-! The acceptance tests (R12, R30, R33): each test of the order said once, and what a refused request leaves. -/

namespace Sys2Proof.Machine

/-! ## The tests in their order -/

section
variable {k : RequestKind} {who : Sender} {armed : Bool} {nt : NodeTable}

theorem openToAll_iff (k : RequestKind) : openToAll k = true ↔ k ∈ [RequestKind.enrol, .status, .ident] := by
  cases k <;> simp [openToAll]

theorem permits_probe_iff (n : Slot) (k : RequestKind) :
    permits (.probe n) k = true ↔ k ∈ [RequestKind.enrol, .status, .ident, .leave, .fetch, .report] := by
  cases k <;> simp [permits, openToAll]

theorem permits_station_iff (k : RequestKind) :
    permits .station k = true ↔ k ∉ [RequestKind.fetch, .report] := by
  simp [permits]

theorem isProtected_iff (k : RequestKind) :
    isProtected k = true ↔ k ∈ [RequestKind.mapBurn, .certCommit, .restart] := by
  cases k <;> simp [isProtected]

theorem enrolled_probe_iff (n : Slot) : nt.enrolled (.probe n) = true ↔ (nt.probes.at n).state ≠ .absent := bne_iff_ne

theorem enrolled_station_iff : nt.enrolled .station = true ↔ nt.station.state = .active := beq_iff_eq

theorem acceptance_notEnrolled (hopen : ¬openToAll k = true) (henrolled : ¬nt.enrolled who = true) :
    acceptance k who armed nt = some .notEnrolled := if_pos ⟨hopen, henrolled⟩

theorem acceptance_role (hfirst : openToAll k = true ∨ nt.enrolled who = true) (hrole : ¬permits who k = true) :
    acceptance k who armed nt = some .role := by
  have hpassed : ¬(¬openToAll k = true ∧ ¬nt.enrolled who = true) := by tauto
  rw [acceptance, if_neg hpassed, if_pos hrole]

theorem acceptance_lapsed {n : Slot} (hk : k ∈ [RequestKind.fetch, .report])
    (hlapsed : (nt.probes.at n).state = .lapsed) : acceptance k (.probe n) armed nt = some .state := by
  have henrolled : nt.enrolled (.probe n) = true := (enrolled_probe_iff n).2 (by simp [hlapsed])
  have hrole : permits (.probe n) k = true := (permits_probe_iff n k).2 (by simp at hk ⊢; tauto)
  have hstate : (k = .fetch ∨ k = .report) ∧ (nt.record (.probe n)).state ≠ .active :=
    ⟨by simpa using hk, by simp [NodeTable.record, hlapsed]⟩
  rw [acceptance, if_neg (fun h => h.2 henrolled), if_neg (not_not.2 hrole), if_pos hstate]

theorem acceptance_unarmed (henrolled : nt.enrolled who = true) (hrole : permits who k = true)
    (hk : isProtected k = true) (harm : ¬armed = true) : acceptance k who armed nt = some .unarmed := by
  have hother : ¬((k = .fetch ∨ k = .report) ∧ (nt.record who).state ≠ .active) := by
    rintro ⟨rfl | rfl, _⟩ <;> simp [isProtected] at hk
  rw [acceptance, if_neg (fun h => h.2 henrolled), if_neg (not_not.2 hrole), if_neg hother, if_pos ⟨hk, harm⟩]

theorem permits_of_accepted (h : acceptance k who armed nt = none) : permits who k = true := by
  by_contra hrole
  unfold acceptance at h
  split_ifs at h

end

/-! ## Frames without an owner -/

/-- A kind byte that names no request kind, from any address (R12, step 3). -/
theorem exec_unknownKind_refused {header kind : Byte} {payload : List Byte} {s : State} (hs : s.held = none)
    (hp : payload.length ≤ 30) (hk : RequestKind.ofByte kind = none) :
    exec (.unknownKind header kind payload) s
      = .next (replied header (.refusal .unknownKind) (heard header kind payload s)) := by
  rw [exec_unknownKind, unlessHeld_of_none hs, deliver_fits hp, decideRequest, hk, ← reply_eq_replied]

/-- A request from an address that has no node record (R12, step 4). -/
theorem exec_request_stranger {k : RequestKind} {header : Byte} {payload : List Byte} {s : State}
    (hs : s.held = none) (hp : payload.length ≤ 30) (hw : senderOf header = none) :
    exec (requestRow k header payload) s = .next (refusedWith k header payload (strangerRefusal k) s) := by
  rw [exec_requestRow, unlessHeld_of_none hs, deliver_fits hp]
  simp only [decideRequest, ofByte_byte, hw, reply_eq_replied]
  rfl

/-- Settles O12: each refusal is the test of that place in the order, the tests before it passed. -/
theorem acceptanceInOrder : Obligations.AcceptanceInOrder := by
  refine ⟨?tests, fun header kind payload s hs hp hk => exec_unknownKind_refused hs hp hk, ?strangers⟩
  case tests =>
    intro k who header payload s hs hp hw enrolled isOpen permitted armed
    have henrolled : s.nodes.enrolled who = true ↔ enrolled := by
      cases who with
      | probe n => exact enrolled_probe_iff n
      | station => exact enrolled_station_iff
    have hopen : openToAll k = true ↔ isOpen := openToAll_iff k
    have hpermits : permits who k = true ↔ permitted := by
      cases who with
      | probe n => exact permits_probe_iff n k
      | station => exact permits_station_iff k
    have harmed : marksArmed s.port.arm header k.byte = true ↔ armed := marksArmed_iff _ _ _
    rw [← henrolled, ← hopen, ← hpermits, ← harmed, ← isProtected_iff]
    refine ⟨fun h1 h2 => ?_, fun h1 h2 => ?_, fun n hn h1 h2 => ?_, fun h1 h2 h3 h4 => ?_⟩
    · exact exec_request_refused hs hp hw (acceptance_notEnrolled h1 h2)
    · exact exec_request_refused hs hp hw (acceptance_role h1 h2)
    · exact exec_request_refused hs hp hw (hn ▸ acceptance_lapsed h1 h2)
    · exact exec_request_refused hs hp hw (acceptance_unarmed h1 h2 h3 h4)
  case strangers =>
    intro k header payload s hs hp hlow hhigh
    exact exec_request_stranger hs hp (senderOf_stranger hlow hhigh)

end Sys2Proof.Machine
end

section
/-! The Node Table: presence filters, ENROL, LEAVE and ARM (chapter 2), with the station change and the transition
into ACTIVE they signal (R35, R66, R68). -/

namespace Sys2Proof.Machine

/-! ## The signals of the Node Table, by campaign state -/

section
variable {s : State}

theorem stationChange_running (h : s.campaign.state = .running) :
    stationChange s = s.onCampaign fun c =>
      { c with causes := { c.causes with station := true }, pausePending := true } := by
  simp [stationChange, h]

theorem stationChange_waiting (h : s.campaign.state = .waiting) :
    stationChange s
      = enterPaused (s.onCampaign fun c => { c with causes := { c.causes with station := true } }) := by
  simp [stationChange, h]

theorem stationChange_paused (h : s.campaign.state = .paused) :
    stationChange s = s.onCampaign fun c => { c with causes := { c.causes with station := true } } := by
  simp [stationChange, h]

theorem stationChange_idle (h : s.campaign.state.live = false) : stationChange s = s := by
  unfold stationChange
  split <;> simp_all [CampaignState.live]

theorem transitionIntoActive_waiting (h : s.campaign.state = .waiting) :
    transitionIntoActive s
      = startPlanBuild (showLamps (s.onCampaign fun c => { c with state := .running, waitTimer := none })) :=
  if_pos h

theorem transitionIntoActive_other (h : s.campaign.state ≠ .waiting) : transitionIntoActive s = s := if_neg h

end

/-! ## The answers of the Node Table -/

section
variable (s : State) {payload : List Byte} {ch tk id1 id0 : Byte}

theorem answerEnrol_malformed (who : Sender) (h : payload.length ≠ 5) :
    answerEnrol who payload s = (s, .refusal .malformed) := by
  unfold answerEnrol
  split
  · simp at h
  · rfl

theorem answerEnrol_probe_role {role : Byte} (n : Slot) (h : role ≠ 1#8) :
    answerEnrol (.probe n) [role, ch, tk, id1, id0] s = (s, .refusal .role) := if_pos h

theorem answerEnrol_probe_notSeated {n : Slot} (h : (s.nodes.presence.at n).seated = false) :
    answerEnrol (.probe n) [1#8, ch, tk, id1, id0] s = (s, .refusal .notSeated) := by
  simp [answerEnrol, h]

theorem answerEnrol_probe_capability {n : Slot} (h : (s.nodes.presence.at n).seated = true) (hch : ch.toNat < 3) :
    answerEnrol (.probe n) [1#8, ch, tk, id1, id0] s = (s, .refusal .capability) := by
  simp [answerEnrol, h, hch]

theorem answerEnrol_probe_accepted {n : Slot} (h : (s.nodes.presence.at n).seated = true) (hch : 3 ≤ ch.toNat) :
    answerEnrol (.probe n) [1#8, ch, tk, id1, id0] s
      = (enrolProbe n ch.toNat s, enrolReply (s.nodes.probes.at n) (min ch.toNat 24)) := by
  simp [answerEnrol, h, Nat.not_lt.2 hch]

theorem answerEnrol_station_role {role : Byte} (h : role ≠ 2#8) :
    answerEnrol .station [role, ch, tk, id1, id0] s = (s, .refusal .role) := if_pos h

theorem answerEnrol_station_range (h : num16 id1 id0 = 0) :
    answerEnrol .station [2#8, ch, tk, id1, id0] s = (s, .refusal .range) := by
  simp [answerEnrol, h]

theorem answerEnrol_station_held (h : num16 id1 id0 ≠ 0)
    (ht : holderTest s.nodes (num16 id1 id0) (tk != 0#8) = none) :
    answerEnrol .station [2#8, ch, tk, id1, id0] s = (s, .refusal .stationHeld) := by
  simp [answerEnrol, h, ht]

theorem answerEnrol_station_admitted {how : Admission} (h : num16 id1 id0 ≠ 0)
    (ht : holderTest s.nodes (num16 id1 id0) (tk != 0#8) = some how) :
    answerEnrol .station [2#8, ch, tk, id1, id0] s
      = (enrolStation how (num16 id1 id0) s, enrolReply s.nodes.station 0) := by
  simp [answerEnrol, h, ht]

theorem answerLeave_malformed (who : Sender) (h : payload ≠ []) :
    answerLeave who payload s = (s, .refusal .malformed) := if_pos h

theorem armKindOf_byte (a : ArmKind) : armKindOf a.byte = some a := by cases a <;> rfl

theorem armKindOf_none {b : Byte} (hburn : b ≠ 0x23#8) (hcert : b ≠ 0x60#8) (hrestart : b ≠ 0x70#8) :
    armKindOf b = none := by
  simp [armKindOf, RequestKind.byte, hburn, hcert, hrestart]

theorem answerArm_known (a : ArmKind) :
    answerArm [a.byte] s = (s.onPort fun p => { p with arm := some a }, ⟨.ok, []⟩) := by
  rw [answerArm, armKindOf_byte]

theorem answerArm_range {b : Byte} (h : armKindOf b = none) : answerArm [b] s = (s, .refusal .range) := by
  rw [answerArm, h]

theorem answerArm_malformed (h : payload.length ≠ 1) : answerArm payload s = (s, .refusal .malformed) := by
  unfold answerArm
  split
  · simp at h
  · rfl

end

/-! ## The holder test of R24 -/

section
variable {nt : NodeTable} {identity : Nat} {takeover : Bool}

theorem holderTest_fresh (h : nt.station.state = .absent) : holderTest nt identity takeover = some .fresh := if_pos h

theorem holderTest_again (h : nt.station.state ≠ .absent) (hh : nt.holder = some identity) :
    holderTest nt identity takeover = some .again := by
  rw [holderTest, if_neg h, if_pos hh]

theorem holderTest_takeover (h : nt.station.state ≠ .absent) (hh : nt.holder ≠ some identity)
    (ht : takeover = true ∧ Config.silenceMicros ≤ nt.silence) :
    holderTest nt identity takeover = some .takeover := by
  rw [holderTest, if_neg h, if_neg hh, if_pos ht]

theorem holderTest_held (h : nt.station.state ≠ .absent) (hh : nt.holder ≠ some identity)
    (ht : ¬(takeover = true ∧ Config.silenceMicros ≤ nt.silence)) : holderTest nt identity takeover = none := by
  rw [holderTest, if_neg h, if_neg hh, if_neg ht]

end

/-! ## What an accepted ENROL leaves -/

section
variable {s : State} {n : Slot}

theorem enrolProbe_plain (channels : Nat)
    (h : s.campaign.state ≠ .waiting ∨ (s.nodes.probes.at n).state = .active) :
    enrolProbe n channels s = setProbe n ((s.nodes.probes.at n).enrolled channels) s := by
  unfold enrolProbe
  split
  · rfl
  · rename_i hinactive
    exact transitionIntoActive_other (h.resolve_right hinactive)

theorem enrolProbe_wakes (channels : Nat) (h : s.campaign.state = .waiting)
    (hinactive : (s.nodes.probes.at n).state ≠ .active) :
    enrolProbe n channels s = startPlanBuild (showLamps
      ((setProbe n ((s.nodes.probes.at n).enrolled channels) s).onCampaign fun c =>
        { c with state := .running, waitTimer := none })) := by
  rw [enrolProbe, if_neg hinactive]
  exact transitionIntoActive_waiting h

end

/-! ## The rows -/

/-- ENROL is open to every address with a record: its owner answers (R30, step 1). -/
theorem exec_enrol {header : Byte} {payload : List Byte} {s t : State} {who : Sender} {a : Answer}
    (hs : s.held = none) (hp : payload.length ≤ 30) (hw : senderOf header = some who)
    (ha : answerEnrol who payload (heard header 0x01#8 payload s) = (t, a)) :
    exec (.enrol header payload) s = .next (replied header a t) := by
  have h := exec_request_owned (k := .enrol) hs hp hw (acceptance_open rfl)
  have ho : ownerAnswers .enrol who payload (heard header RequestKind.enrol.byte payload s) = (t, a) := ha
  rwa [ho] at h

/-- LEAVE of an enrolled probe or of the ACTIVE station reaches its owner (R30). -/
theorem exec_leave {header : Byte} {payload : List Byte} {s t : State} {who : Sender} {a : Answer}
    (hs : s.held = none) (hp : payload.length ≤ 30) (hw : senderOf header = some who)
    (hc : ∀ armed, acceptance .leave who armed s.nodes = none)
    (ha : answerLeave who payload (heard header 0x02#8 payload s) = (t, a)) :
    exec (.leave header payload) s = .next (replied header a t) := by
  have h := exec_request_owned (k := .leave) hs hp hw (hc _)
  have ho : ownerAnswers .leave who payload (heard header RequestKind.leave.byte payload s) = (t, a) := ha
  rwa [ho] at h

/-- ARM of the ACTIVE station reaches its owner (R30). -/
theorem exec_arm {header : Byte} {payload : List Byte} {s t : State} {a : Answer} (hmay : stationMay header s)
    (hp : payload.length ≤ 30) (ha : answerArm payload (heard header 0x05#8 payload s) = (t, a)) :
    exec (.arm header payload) s = .next (replied header a t) := by
  have h := exec_station (k := .arm) hmay hp (by decide) (by decide) (by simp [isProtected])
  have ho : ownerAnswers .arm .station payload (heard header RequestKind.arm.byte payload s) = (t, a) := ha
  rwa [ho] at h

/-- An ENROL that a probe's owner accepts: the record held before is told in the reply (R22, R23). -/
theorem exec_enrol_probe_accepted {header ch tk id1 id0 : Byte} {n : Slot} {s t : State} (hs : s.held = none)
    (haddr : addressOf header = n.val) (hseat : (s.nodes.presence.at n).seated = true) (hch : 3 ≤ ch.toNat)
    (ht : enrolProbe n ch.toNat (heard header 0x01#8 [1#8, ch, tk, id1, id0] s) = t) :
    exec (.enrol header [1#8, ch, tk, id1, id0]) s
      = .next (replied header (enrolReply (s.nodes.probes.at n) (min ch.toNat 24)) t) :=
  exec_enrol hs (by simp) (senderOf_probe n haddr) (ht ▸ answerEnrol_probe_accepted _ hseat hch)

/-- An ENROL at address 31 that the holder test admits (R22, R24). -/
theorem exec_enrol_station_admitted {header ch tk id1 id0 : Byte} {how : Admission} {s t : State}
    (hs : s.held = none) (haddr : addressOf header = 31) (hid : num16 id1 id0 ≠ 0)
    (htest : holderTest s.nodes (num16 id1 id0) (tk != 0#8) = some how)
    (ht : enrolStation how (num16 id1 id0) (heard header 0x01#8 [2#8, ch, tk, id1, id0] s) = t) :
    exec (.enrol header [2#8, ch, tk, id1, id0]) s
      = .next (replied header (enrolReply s.nodes.station 0) t) :=
  exec_enrol hs (by simp) (senderOf_station haddr) (ht ▸ answerEnrol_station_admitted _ hid htest)

/-! ## The obligations -/

/-- Settles O13: the three answers of the arm record's owner. -/
theorem armSetsRecord : Obligations.ArmSetsRecord := by
  intro header s hmay
  refine ⟨fun a => ?_, fun b hburn hcert hrestart => ?_, fun payload hp hlen => ?_⟩
  · exact exec_arm hmay (by simp) (answerArm_known _ a)
  · exact exec_arm hmay (by simp) (answerArm_range _ (armKindOf_none hburn hcert hrestart))
  · exact exec_arm hmay hp (answerArm_malformed _ hlen)

/-- Settles O17: the filter settles low, settles high, and follows a departing level. -/
theorem presenceFiltersSettle : Obligations.PresenceFiltersSettle := by
  refine ⟨fun n s hheld => ⟨fun hempty => ?seated, fun hseated => ?lost⟩, fun n low s hheld hdeparts => ?departs⟩
  case seated =>
    have hrow : exec (.presenceSeated n) s = .next (presenceSeats n s) := congrArg _ (unlessHeld_of_none hheld)
    rw [hrow, presenceSeats, if_neg (by simp [hempty])]
    rfl
  case lost =>
    have hrow : exec (.presenceLoss n) s = .next (presenceLost n s) := congrArg _ (unlessHeld_of_none hheld)
    rw [hrow, presenceLost, if_pos hseated]
    rfl
  case departs =>
    have hrow : exec (.presenceDeparture n low) s = .next (presenceDeparts n low s) := by
      show Host.Outcome.next (if s.held.isSome then presencePin n low s else presenceDeparts n low s) = _
      rw [hheld]
      rfl
    rw [hrow, presenceDeparts, PresenceFilter.level, if_neg hdeparts]
    rfl

/-- Settles O20: a probe's LEAVE, and the station's by campaign state. -/
theorem leaveMakesAbsent : Obligations.LeaveMakesAbsent := by
  constructor
  · intro n header s hheld haddr henrolled
    have run {payload : List Byte} {t : State} {a : Answer} (hp : payload.length ≤ 30) :=
      exec_leave (t := t) (a := a) hheld hp (senderOf_probe n haddr) fun _ => acceptance_leave henrolled
    exact ⟨run (Nat.zero_le _) rfl, fun payload hp hne => run hp (answerLeave_malformed _ _ hne)⟩
  · intro header s hmay gone changed answered
    obtain ⟨hheld, haddr, hactive⟩ := hmay
    have run {payload : List Byte} {t : State} {a : Answer} (hp : payload.length ≤ 30) :=
      exec_leave (t := t) (a := a) hheld hp (senderOf_station haddr) fun _ =>
        acceptance_station hactive (by decide) (by decide) (by simp [isProtected])
    have leaves : ∀ {t : State}, stationChange gone = t → answered t := by
      rintro t rfl
      exact run (Nat.zero_le _) rfl
    exact ⟨fun hidle => leaves (stationChange_idle hidle), fun hrun => leaves (stationChange_running hrun),
      fun hpaused => leaves (stationChange_paused hpaused), fun hwait => leaves (stationChange_waiting hwait),
      fun payload hp hne => run hp (answerLeave_malformed _ _ hne)⟩

end Sys2Proof.Machine
end

section
/-! The two ENROL statements, in a namespace of their own: their names are also those of the operations. -/

namespace Sys2Proof.Nodes

open Sys2Proof.Machine

/-- Settles O18: the refusals in order, then the two ways an accepted ENROL goes on. -/
theorem enrolProbe : Obligations.EnrolProbe := by
  refine ⟨fun n header payload s hheld haddr hp hlen => ?_, ?_⟩
  · exact exec_enrol hheld hp (senderOf_probe n haddr) (answerEnrol_malformed _ _ hlen)
  intro n header role ch tk id1 id0 s hheld haddr payload old new s' answer
  have run : ∀ {t : State} {a : Answer}, answerEnrol (.probe n) payload (heard header 0x01#8 payload s) = (t, a) →
      exec (.enrol header payload) s = .next (replied header a t) :=
    exec_enrol hheld (by simp [payload]) (senderOf_probe n haddr)
  refine ⟨fun hrole => ?_, ?_, ?_, ?_⟩
  · exact run (answerEnrol_probe_role _ n hrole)
  all_goals rintro rfl hseat
  · exact run (answerEnrol_probe_notSeated _ hseat)
  · exact fun hch => run (answerEnrol_probe_capability _ hseat hch)
  · intro hch
    exact ⟨fun hplain => exec_enrol_probe_accepted hheld haddr hseat hch (enrolProbe_plain _ hplain),
      fun hwait hinactive => exec_enrol_probe_accepted hheld haddr hseat hch (enrolProbe_wakes _ hwait hinactive)⟩

/-- Settles O19: the refusals in order, then the three admissions by campaign state. -/
theorem enrolStation : Obligations.EnrolStation := by
  refine ⟨fun header payload s hheld haddr hp hlen => ?_, ?_⟩
  · exact exec_enrol hheld hp (senderOf_station haddr) (answerEnrol_malformed _ _ hlen)
  intro header role ch tk id1 id0 s hheld haddr payload id fresh again takeover s' changed answered
  have run : ∀ {t : State} {a : Answer}, answerEnrol .station payload (heard header 0x01#8 payload s) = (t, a) →
      exec (.enrol header payload) s = .next (replied header a t) :=
    exec_enrol hheld (by simp [payload]) (senderOf_station haddr)
  have htake : (tk != 0#8) = true ∧ Config.silenceMicros ≤ s.nodes.silence ↔ takeover := by
    simp [takeover, Config.silenceMicros]
  refine ⟨fun hrole => ?role, ?range, ?held, ?fresh, ?again, ?takeover⟩
  case role => exact run (answerEnrol_station_role _ hrole)
  case range =>
    rintro rfl hid
    exact run (answerEnrol_station_range _ hid)
  case held =>
    rintro rfl hid hfresh hagain htakeover
    exact run (answerEnrol_station_held _ hid (holderTest_held hfresh hagain (mt htake.1 htakeover)))
  case fresh =>
    rintro rfl hid hfresh
    have answers {t : State} :=
      exec_enrol_station_admitted (t := t) (ch := ch) (tk := tk) hheld haddr hid (holderTest_fresh hfresh)
    exact ⟨fun hwait => answers (transitionIntoActive_other hwait),
      fun hwait => answers (transitionIntoActive_waiting hwait)⟩
  case again =>
    rintro rfl hid hfresh hagain
    exact exec_enrol_station_admitted hheld haddr hid (holderTest_again hfresh hagain) rfl
  case takeover =>
    rintro rfl hid hfresh hagain htakeover
    have answers {t : State} :=
      exec_enrol_station_admitted (t := t) (ch := ch) hheld haddr hid
        (holderTest_takeover hfresh hagain (htake.2 htakeover))
    exact ⟨fun hidle => answers (stationChange_idle hidle), fun hrun => answers (stationChange_running hrun),
      fun hpaused => answers (stationChange_paused hpaused), fun hwait => answers (stationChange_waiting hwait)⟩

end Sys2Proof.Nodes
end

section
/-! What no probe can reach (R30): the map, the store, the parameters and the station, kept by every operation that
a request from another address than 31 can run. -/

namespace Sys2Proof.Machine

/-- The fields that belong to the station alone stand in `t` as they stood in `s` (R30). -/
structure StationKept (s t : State) : Prop where
  map : t.map = s.map
  nv : t.nv = s.nv
  params : t.campaign.params = s.campaign.params
  number : t.campaign.number = s.campaign.number
  retestLimit : t.campaign.retestLimit = s.campaign.retestLimit
  certified : t.campaign.certified = s.campaign.certified
  restartDue : t.campaign.restartDue = s.campaign.restartDue
  station : t.nodes.station.state = s.nodes.station.state
  holder : t.nodes.holder = s.nodes.holder
  silence : t.nodes.silence = s.nodes.silence

namespace StationKept

section
variable {s t u : State}

theorem refl (s : State) : StationKept s s := ⟨rfl, rfl, rfl, rfl, rfl, rfl, rfl, rfl, rfl, rfl⟩

theorem trans (h : StationKept s t) (h' : StationKept t u) : StationKept s u where
  map := h'.map.trans h.map
  nv := h'.nv.trans h.nv
  params := h'.params.trans h.params
  number := h'.number.trans h.number
  retestLimit := h'.retestLimit.trans h.retestLimit
  certified := h'.certified.trans h.certified
  restartDue := h'.restartDue.trans h.restartDue
  station := h'.station.trans h.station
  holder := h'.holder.trans h.holder
  silence := h'.silence.trans h.silence

/-- What each operation of a list keeps, running the list keeps. -/
theorem foldl {f : State → α → State} (hf : ∀ s a, StationKept s (f s a)) (as : List α) (s : State) :
    StationKept s (as.foldl f s) := by
  induction as generalizing s with
  | nil => exact refl s
  | cons a as ih => exact (hf s a).trans (ih (f s a))

/-! ## The shared operations -/

theorem onPort (f : Port → Port) (s : State) : StationKept s (s.onPort f) := { refl s with }

theorem enterPaused (s : State) : StationKept s (enterPaused s) := { refl s with }

theorem enterDone (s : State) : StationKept s (enterDone s) := { refl s with }

theorem startPlanBuild (s : State) : StationKept s (startPlanBuild s) := { refl s with }

theorem transitionIntoActive (s : State) : StationKept s (transitionIntoActive s) := by
  by_cases h : s.campaign.state = .waiting
  · rw [transitionIntoActive_waiting h]
    exact { refl s with }
  · rw [transitionIntoActive_other h]
    exact refl s

theorem closeEpoch (normal : Bool) (s : State) : StationKept s (closeEpoch normal s) := by
  have decided : ∀ u : State, StationKept u (decideAfterClose u) := by
    intro u
    rcases decideAfterClose_cases u with ⟨_, e⟩ | ⟨_, _, _, e⟩ | ⟨_, _, e⟩ <;> rw [e]
    · exact enterPaused u
    · exact enterDone u
    · exact startPlanBuild u
  exact { decided _ with }

theorem gradeTrial (s : State) (t : Trial) : StationKept s (gradeTrial s t) := by
  rw [gradeTrial_frame]
  exact { refl s with }

/-! ## What a probe's requests run -/

theorem setProbe (n : Slot) (r : NodeRecord) (s : State) : StationKept s (setProbe n r s) := { refl s with }

theorem enrolProbe (n : Slot) (channels : Nat) (s : State) : StationKept s (enrolProbe n channels s) := by
  unfold Machine.enrolProbe
  split
  · exact setProbe ..
  · exact (setProbe ..).trans (transitionIntoActive _)

theorem completeFetch (n : Slot) (s : State) : StationKept s (completeFetch n s) := { refl s with }

theorem completeReport (n : Slot) (s : State) : StationKept s (completeReport n s) :=
  { foldl gradeTrial _ (trackReference n (clearMisses n s)) with }

theorem acceptRun (n : Slot) (values : List EntryValue) (s : State) : StationKept s (acceptRun n values s) := by
  have stored : StationKept s (storeRun n values s) := { refl s with }
  unfold Machine.acceptRun
  split
  · unfold closeIfDone
    split
    · exact (stored.trans (completeReport n _)).trans (closeEpoch true _)
    · exact stored.trans (completeReport n _)
  · exact stored

/-- The owner of a kind that a probe's role permits keeps what is the station's. -/
theorem ownerAnswers {k : RequestKind} {n : Slot} (hk : permits (.probe n) k = true) (payload : List Byte)
    (s : State) : StationKept s (ownerAnswers k (.probe n) payload s).1 := by
  cases k
  case enrol =>
    rw [Machine.ownerAnswers]
    rcases answerEnrol_state payload s (.probe n) with e | ⟨m, channels, _, e⟩ | ⟨_, _, hwho, _⟩
    · rw [e]; exact refl s
    · rw [e]; exact enrolProbe m channels s
    · cases hwho
  case status => rw [Machine.ownerAnswers, answerStatus_state]; exact refl s
  case ident => rw [Machine.ownerAnswers, answerIdent_state]; exact refl s
  case leave =>
    rw [Machine.ownerAnswers]
    rcases answerLeave_state payload s (.probe n) with e | ⟨m, _, e⟩ | ⟨hwho, _⟩
    · rw [e]; exact refl s
    · rw [e]; exact setProbe ..
    · cases hwho
  case fetch =>
    rcases answerFetch_state payload s n with e | ⟨_, e⟩ <;> rw [Machine.ownerAnswers, probeOnly, e]
    · exact refl s
    · exact completeFetch n s
  case report =>
    rcases answerReport_state payload s n with e | ⟨_, _, values, _, _, _, e⟩ <;>
      rw [Machine.ownerAnswers, probeOnly, e]
    · exact refl s
    · exact acceptRun n values s
  all_goals exact absurd hk (by simp [permits, openToAll])

/-! ## Taking a request -/

/-- A reply restarts the silence timer for the station alone (R26). -/
theorem replied {header : Byte} (h : addressOf header ≠ 31) (a : Answer) (s : State) :
    StationKept s (replied header a s) := by
  obtain ⟨-, hstation, hholder, -⟩ := replied_nodes header a s
  have hsilence := replied_silence header a s
  rw [if_neg fun hand => h hand.1] at hsilence
  exact { refl s with station := congrArg _ hstation, holder := hholder, silence := hsilence }

theorem decideRequest {header : Byte} (h : addressOf header ≠ 31) (kind : Byte) (armed : Bool) (payload : List Byte)
    (s : State) : StationKept s (decideRequest header kind armed payload s).1 := by
  rcases decideRequest_state header kind armed payload s with e | ⟨k, who, _, hwho, haccepted, e⟩ <;> rw [e]
  · exact refl s
  · cases who with
    | probe n => exact ownerAnswers (permits_of_accepted haccepted) payload s
    | station => exact absurd (addressOf_of_station hwho) h

theorem deliver {header : Byte} (h : addressOf header ≠ 31) (kind : Byte) (payload : List Byte) (s : State) :
    StationKept s (deliver header kind payload s) := by
  rcases Nat.lt_or_ge 30 payload.length with hlong | hfits
  · rw [deliver_long hlong]
    exact onPort ..
  · rw [deliver_fits hfits, ← Prod.mk.eta (p := Machine.decideRequest _ _ _ _ _), reply_eq_replied]
    have hheard : StationKept s (heard header kind payload s) := { refl s with }
    exact (hheard.trans (decideRequest h ..)).trans (replied h ..)

end

end StationKept

/-- Settles O60: the frame of a request from another address keeps every field that is the station's. -/
theorem probesCannotReach : Obligations.ProbesCannotReach := by
  intro k header payload s t haddr hexec
  rw [exec_requestRow] at hexec
  cases hexec
  obtain ⟨hmap, hnv, hparams, hnumber, hlimit, hcertified, hrestart, hstation, hholder, hsilence⟩ :=
    unlessHeld_keeps (P := StationKept s) (fun _ => StationKept.deliver haddr k.byte payload s) (StationKept.refl s)
  exact ⟨hmap, hnv, hparams, hnumber, hlimit, hcertified, hrestart, hstation, hholder, hsilence⟩

end Sys2Proof.Machine
end

section
/-! The close of an epoch (R61, R115) and the announce end (R102, R103): what the withdrawal does, what the close
leaves, and the three ways on. -/

namespace Sys2Proof.Machine

/-! ## What the epoch cycle leaves alone -/

/-- What the ends of an announce and of a grace keep: the blocks they do not reach, the references, the presence
filters and the station's state. -/
structure CycleKept (s t : State) : Prop where
  port : t.port = s.port
  map : t.map = s.map
  nv : t.nv = s.nv
  held : t.held = s.held
  freeDraws : t.freeDraws = s.freeDraws
  pending : t.pending = s.pending
  refs : t.grading.refs = s.grading.refs
  presence : t.nodes.presence = s.nodes.presence
  station : t.nodes.station.state = s.nodes.station.state

/-- What the way on from an announce end or from a close keeps besides: the results, the queue, and each probe's
miss count, state and channel count. -/
structure LegsKept (s t : State) : Prop extends CycleKept s t where
  results : t.results = s.results
  queue : t.planner.queue = s.planner.queue
  misses : ∀ n, (t.nodes.probes.at n).misses = (s.nodes.probes.at n).misses
  state : ∀ n, (t.nodes.probes.at n).state = (s.nodes.probes.at n).state
  channels : ∀ n, (t.nodes.probes.at n).channels = (s.nodes.probes.at n).channels

section
variable {s t u : State}

theorem CycleKept.refl (s : State) : CycleKept s s := ⟨rfl, rfl, rfl, rfl, rfl, rfl, rfl, rfl, rfl⟩

theorem CycleKept.trans (h : CycleKept s t) (h' : CycleKept t u) : CycleKept s u where
  port := h'.port.trans h.port
  map := h'.map.trans h.map
  nv := h'.nv.trans h.nv
  held := h'.held.trans h.held
  freeDraws := h'.freeDraws.trans h.freeDraws
  pending := h'.pending.trans h.pending
  refs := h'.refs.trans h.refs
  presence := h'.presence.trans h.presence
  station := h'.station.trans h.station

/-- With the results kept too, every other block is one of the eight named. -/
theorem CycleKept.frame_of_results (h : CycleKept s t) (hr : t.results = s.results) :
    t = { s with
      planner := t.planner, nodes := t.nodes, epoch := t.epoch, campaign := t.campaign, rail := t.rail
      findings := t.findings, timebase := t.timebase, grading := t.grading } := by
  obtain ⟨hport, hmap, hnv, hheld, hdraws, hpending, -, -, -⟩ := h
  rw [← hport, ← hmap, ← hnv, ← hheld, ← hdraws, ← hpending, ← hr]

/-- With the findings kept too, every other block is one of the eight named. -/
theorem CycleKept.frame_of_findings (h : CycleKept s t) (hf : t.findings = s.findings) :
    t = { s with
      results := t.results, planner := t.planner, nodes := t.nodes, epoch := t.epoch, campaign := t.campaign
      rail := t.rail, timebase := t.timebase, grading := t.grading } := by
  obtain ⟨hport, hmap, hnv, hheld, hdraws, hpending, -, -, -⟩ := h
  rw [← hport, ← hmap, ← hnv, ← hheld, ← hdraws, ← hpending, ← hf]

theorem LegsKept.refl (s : State) : LegsKept s s :=
  { CycleKept.refl s with
    results := rfl, queue := rfl, misses := fun _ => rfl, state := fun _ => rfl, channels := fun _ => rfl }

theorem LegsKept.trans (h : LegsKept s t) (h' : LegsKept t u) : LegsKept s u where
  toCycleKept := h.toCycleKept.trans h'.toCycleKept
  results := h'.results.trans h.results
  queue := h'.queue.trans h.queue
  misses n := (h'.misses n).trans (h.misses n)
  state n := (h'.state n).trans (h.state n)
  channels n := (h'.channels n).trans (h.channels n)

/-! ## The close -/

theorem enterPaused_legsKept (s : State) : LegsKept s (enterPaused s) := { LegsKept.refl s with }

theorem enterDone_legsKept (s : State) : LegsKept s (enterDone s) := { LegsKept.refl s with }

theorem startPlanBuild_legsKept (s : State) : LegsKept s (startPlanBuild s) := by
  rw [startPlanBuild_frame]
  exact { LegsKept.refl s with
    misses := fun n => by simp [NodeRecord.freshEpoch]
    state := fun n => by simp [NodeRecord.freshEpoch]
    channels := fun n => by simp [NodeRecord.freshEpoch] }

/-- What the close of an epoch leaves, whichever way it goes on (R61, R115, R143). -/
structure EpochClosed (normal : Bool) (s t : State) : Prop extends LegsKept s t where
  findings : t.findings = s.findings
  rail : t.rail = { s.rail with consecutive := if normal then 0 else s.rail.consecutive }
  lastEnded : t.epoch.lastEnded = some (s.epoch.number, .closed)
  trials : t.planner.trials = []

/-- What follows a close leaves the findings, the rail and the mark of the ended epoch, and empties the trial table. -/
theorem decideAfterClose_leaves (u : State) :
    LegsKept u (decideAfterClose u) ∧ (decideAfterClose u).findings = u.findings
      ∧ (decideAfterClose u).rail = u.rail ∧ (decideAfterClose u).epoch.lastEnded = u.epoch.lastEnded
      ∧ (decideAfterClose u).planner.trials = [] := by
  rcases decideAfterClose_cases u with ⟨_, e⟩ | ⟨_, _, _, e⟩ | ⟨_, _, e⟩ <;> rw [e]
  · exact ⟨enterPaused_legsKept u, rfl, rfl, rfl, rfl⟩
  · exact ⟨enterDone_legsKept u, rfl, rfl, rfl, rfl⟩
  · exact ⟨startPlanBuild_legsKept u, rfl, rfl, rfl, rfl⟩

theorem decideAfterClose_paused (hp : s.campaign.pausePending = true) : decideAfterClose s = enterPaused s := if_pos hp

theorem decideAfterClose_done (hp : s.campaign.pausePending = false) (hq : s.planner.queue = [])
    (hh : heldTrials s = []) : decideAfterClose s = enterDone s := by
  simp [decideAfterClose, hp, hq, hh]

theorem decideAfterClose_builds (hp : s.campaign.pausePending = false) (hq : s.planner.queue ≠ []) :
    decideAfterClose s = startPlanBuild s := by
  simp [decideAfterClose, hp, hq]

/-- The epoch marked as last ended CLOSED, before what follows is decided (R115, R143). -/
def markClosed (normal : Bool) (s : State) : State :=
  (s.onEpoch fun e => { e with timer := none, lastEnded := some (e.number, .closed) }).onRail fun r =>
    { r with consecutive := if normal then 0 else r.consecutive }

theorem closeEpoch_eq (normal : Bool) (s : State) : closeEpoch normal s = decideAfterClose (markClosed normal s) := rfl

theorem closeEpoch_closed (normal : Bool) (s : State) : EpochClosed normal s (closeEpoch normal s) := by
  have marked : LegsKept s (markClosed normal s) := { LegsKept.refl s with }
  obtain ⟨after, hfindings, hrail, hlast, htrials⟩ := decideAfterClose_leaves (markClosed normal s)
  exact { marked.trans after with findings := hfindings, rail := hrail, lastEnded := hlast, trials := htrials }

theorem closeEpoch_paused (normal : Bool) (hp : s.campaign.pausePending = true) :
    (closeEpoch normal s).campaign.state = .paused ∧ (closeEpoch normal s).campaign.pausePending = false
      ∧ (closeEpoch normal s).epoch.state = .none := by
  rw [closeEpoch_eq, decideAfterClose_paused (s := markClosed normal s) hp]
  exact ⟨rfl, rfl, rfl⟩

theorem closeEpoch_done (normal : Bool) (hp : s.campaign.pausePending = false) (hq : s.planner.queue = [])
    (hh : heldTrials s = []) :
    (closeEpoch normal s).campaign.state = .done ∧ (closeEpoch normal s).epoch.state = .none := by
  rw [closeEpoch_eq, decideAfterClose_done (s := markClosed normal s) hp hq hh]
  exact ⟨rfl, rfl⟩

theorem closeEpoch_builds (normal : Bool) (hp : s.campaign.pausePending = false) (hq : s.planner.queue ≠ []) :
    (closeEpoch normal s).campaign = s.campaign ∧ (closeEpoch normal s).epoch.state = .planning
      ∧ (closeEpoch normal s).epoch.number = nextEpochNumber s.epoch.number := by
  rw [closeEpoch_eq, decideAfterClose_builds (s := markClosed normal s) hp hq]
  exact ⟨rfl, rfl, rfl⟩

end

/-! ## The withdrawal (R102) -/

section
variable (s : State)

theorem unfetched_iff (nt : NodeTable) (y : Trial) :
    unfetched nt y = true ↔ (nt.probes.at y.driver.slot).fetchComplete = false
      ∨ (nt.probes.at y.receiver.slot).fetchComplete = false := by
  simp [unfetched]

theorem notFetched_iff (n : Slot) :
    notFetched s n = true ↔ s.planner.duties.at n ≠ [] ∧ (s.nodes.probes.at n).fetchComplete = false := by
  simp [notFetched]

theorem withdraw_planner :
    (withdraw s).planner = { s.planner with
      queue := ((heldTrials s).filter (unfetched s.nodes)).map (·.leg) ++ s.planner.queue
      trials := s.planner.trials.map fun y =>
        if y.state == .held && unfetched s.nodes y then { y with state := .vacated } else y } := by
  unfold withdraw
  simp only
  rw [releaseNodes_frame, missAll_frame]
  rfl

/-- A node with duties that did not complete its fetch takes one miss, and no other does (R29, R102). -/
theorem withdraw_probe (n : Slot) :
    (withdraw s).nodes.probes.at n
      = if notFetched s n then (s.nodes.probes.at n).missed (s.p 7) else s.nodes.probes.at n := by
  unfold withdraw
  simp only
  rw [releaseNodes_frame]
  refine (missAll_at (allSlots_filter_nodup _) _ n).trans ?_
  simp only [List.mem_filter, mem_allSlots, true_and]
  rfl

theorem withdraw_released (n : Slot) :
    (withdraw s).epoch.released.at n = (notFetched s n || s.epoch.released.at n) := by
  unfold withdraw
  simp only
  rw [releaseNodes_at, missAll_frame]
  simp only [List.mem_filter, mem_allSlots, true_and, Bool.decide_eq_true]
  rfl

/-- The trials that stay HELD are those whose two nodes completed their fetch. -/
theorem heldTrials_withdraw :
    heldTrials (withdraw s) = (heldTrials s).filter fun y => !unfetched s.nodes y := by
  unfold heldTrials
  rw [withdraw_planner]
  simp only
  induction s.planner.trials with
  | nil => rfl
  | cons y ys ih =>
    rw [List.map_cons, List.filter_cons, ih]
    by_cases hy : y.state = .held <;> by_cases hu : unfetched s.nodes y = true <;> simp [hy, hu]

theorem withdraw_cycleKept : CycleKept s (withdraw s) := by
  rw [withdraw_frame]
  exact { CycleKept.refl s with }

theorem withdraw_leaves :
    (withdraw s).results = s.results ∧ (withdraw s).campaign = s.campaign ∧ (withdraw s).rail = s.rail
      ∧ (withdraw s).findings = s.findings ∧ (withdraw s).timebase = s.timebase
      ∧ (withdraw s).epoch = { s.epoch with released := (withdraw s).epoch.released } := by
  rw [withdraw_frame]
  exact ⟨rfl, rfl, rfl, rfl, rfl, rfl⟩

/-! ## The ways on (R103) -/

variable {s}

/-- P5 names the phase that comes first; the clock source sets the backup mark (R103, R104, R105). -/
theorem beginPhase1_frame (s : State) :
    beginPhase1 s = { s with epoch := { s.epoch with
      state := .phase1, driveFirst := decide (s.p 4 ≠ 0)
      qstb := decide (s.p 4 = 0), dstb := decide (s.p 4 ≠ 0)
      timer := some ((if s.p 4 = 0 then s.p 1 else s.p 2) * 100)
      backup := s.epoch.backup || decide (s.timebase.source = .backup) } } := by
  have hsource : (s.timebase.source == .backup) = decide (s.timebase.source = .backup) := rfl
  by_cases h : s.p 4 = 0
  all_goals
    simp [beginPhase1, beginPhase, State.onEpoch, h, hsource]
    rfl

theorem beginPhase1_legsKept (s : State) : LegsKept s (beginPhase1 s) := { LegsKept.refl s with }

theorem enterVoid_legsKept (cause : VoidCause) (s : State) : LegsKept s (enterVoid cause s) := by
  rw [enterVoid_frame]
  exact { LegsKept.refl s with }

theorem afterWithdrawal_legsKept (s : State) : LegsKept s (afterWithdrawal s) := by
  unfold afterWithdrawal
  split
  · exact (closeEpoch_closed false s).toLegsKept
  · split
    · exact enterVoid_legsKept .rail s
    · exact beginPhase1_legsKept s

/-- With a trial still HELD neither way on touches the plan or the released marks. -/
theorem afterWithdrawal_goesOn (h : heldTrials s ≠ []) :
    (afterWithdrawal s).planner = s.planner ∧ (afterWithdrawal s).epoch.released = s.epoch.released := by
  unfold afterWithdrawal
  rw [if_neg (by simpa using h)]
  split
  · rw [enterVoid_frame]
    exact ⟨rfl, rfl⟩
  · exact ⟨rfl, rfl⟩

theorem afterWithdrawal_closes (h : heldTrials s = []) : afterWithdrawal s = closeEpoch false s := by
  simp [afterWithdrawal, h]

theorem afterWithdrawal_voids (h : heldTrials s ≠ []) (hr : s.rail.state = .sag) :
    afterWithdrawal s = enterVoid .rail s := by
  simp [afterWithdrawal, h, hr]

theorem afterWithdrawal_begins (h : heldTrials s ≠ []) (hr : s.rail.state = .ok) :
    afterWithdrawal s = beginPhase1 s := by
  simp [afterWithdrawal, h, hr]

/-- A void with cause RAIL in a live campaign counts at the rail, presents RAIL_VOID and places the RAIL cause once
P15 voids came one after the other (R142). -/
theorem enterVoid_rail (h : s.campaign.state.live = true) :
    (enterVoid .rail s).rail = { s.rail with
        voidTotal := satInc 65535 s.rail.voidTotal, consecutive := satInc 255 s.rail.consecutive }
      ∧ (enterVoid .rail s).findings = s.findings.after s.map (railVoidPresentation s.epoch.number)
      ∧ (enterVoid .rail s).campaign.causes.rail
          = (s.campaign.causes.rail || decide (s.p 14 ≤ satInc 255 s.rail.consecutive)) := by
  unfold enterVoid countVoid
  simp only [placeRailCause_frame]
  refine ⟨?_, ?_, ?_⟩
  · rw [present_frame]
    rfl
  · exact present_live _ h
  · rw [present_frame]
    rfl

end

theorem exec_announceEnd {s : State} (hheld : s.held = none) (hann : s.epoch.state = .announce) :
    exec .announceEnd s = .next (afterWithdrawal (withdraw s)) := by
  have hrow : exec .announceEnd s = .next (announceEnds s) := congrArg _ (unlessHeld_of_none hheld)
  rw [hrow, announceEnds, if_pos hann]

/-- Settles O33: the withdrawal, then by the trials still HELD and the rail the phase, the void or the empty close. -/
theorem announceEndWithdraws : Obligations.AnnounceEndWithdraws := by
  intro s hheld hrun hann missing late out gone queue kept
  have hlate (n : Slot) : notFetched s n = true ↔ late n := notFetched_iff s n
  have hout (y : Trial) : (y.state == .held && unfetched s.nodes y) = decide (out y) := by
    rw [Bool.eq_iff_iff]
    simp [out, missing, unfetched_iff]
  have hgone : (heldTrials s).filter (unfetched s.nodes) = gone := by
    rw [heldTrials, List.filter_filter]
    exact List.filter_congr fun y _ => by rw [← hout, Bool.and_comm]
  have hkept : heldTrials (withdraw s) = kept := by
    rw [heldTrials_withdraw, heldTrials, List.filter_filter]
    refine List.filter_congr fun y _ => ?_
    have := hout y
    by_cases hy : y.state = .held <;> simp_all
  have hplanner : (withdraw s).planner = { s.planner with
      queue := queue
      trials := s.planner.trials.map fun y => if out y then { y with state := .vacated } else y } := by
    rw [withdraw_planner, hgone]
    simp only [hout, decide_eq_true_eq]
    rfl
  obtain ⟨hresults, hcampaign, hrail, hfindings, htimebase, hepoch⟩ := withdraw_leaves s
  have legs := afterWithdrawal_legsKept (withdraw s)
  have cycle := (withdraw_cycleKept s).trans legs.toCycleKept
  have closes (hempty : kept = []) := afterWithdrawal_closes (hkept.trans hempty)
  refine ⟨_, exec_announceEnd hheld hann, cycle.frame_of_results (legs.results.trans hresults),
    legs.queue.trans (congrArg _ hplanner), cycle.refs, cycle.presence, cycle.station, fun n => ?probes,
    fun hne => ?goesOn, fun hempty => ?closed, fun hempty hp => ?paused, fun hempty hp hq => ?done,
    fun hempty hp hq => ?builds⟩
  case probes =>
    rw [legs.misses, legs.state, legs.channels, withdraw_probe]
    by_cases hn : late n
    · rw [if_pos ((hlate n).2 hn)]
      exact ⟨fun _ => ⟨rfl, rfl⟩, fun h => absurd hn h, rfl⟩
    · rw [if_neg (mt (hlate n).1 hn)]
      exact ⟨fun h => absurd h hn, fun _ => ⟨rfl, rfl⟩, rfl⟩
  case goesOn =>
    have hheldTrials : heldTrials (withdraw s) ≠ [] := hkept ▸ hne
    have hp (i : Fin 16) : (withdraw s).p i = s.p i := by rw [State.p, hcampaign, State.p]
    obtain ⟨hplan, hreleased⟩ := afterWithdrawal_goesOn hheldTrials
    refine ⟨hplan.trans hplanner, fun n => ?_, fun hok => ?_, fun hsag => ?_⟩
    · rw [hreleased, withdraw_released, Bool.or_eq_true, hlate, or_comm]
    · rw [afterWithdrawal_begins hheldTrials (hrail ▸ hok), beginPhase1_frame]
      simp only [hp, htimebase]
      rw [hepoch]
      exact ⟨rfl, hcampaign, hrail, hfindings⟩
    · have hlive : (withdraw s).campaign.state.live = true := by rw [hcampaign, hrun]; rfl
      have hmap : (withdraw s).map = s.map := (withdraw_cycleKept s).map
      obtain ⟨hvoid, hpresented, hcause⟩ := enterVoid_rail hlive
      rw [afterWithdrawal_voids hheldTrials (hrail ▸ hsag), hvoid, hpresented, hcause, hrail, hfindings, hmap,
        hcampaign, hp]
      refine ⟨?_, rfl, ?_, rfl⟩
      · rw [enterVoid_frame, hp, hepoch]
      · rw [hepoch]
        rfl
  case closed =>
    have closed := closeEpoch_closed false (withdraw s)
    rw [closes hempty]
    exact ⟨closed.lastEnded.trans (by rw [hepoch]), closed.rail.trans hrail, closed.trials,
      closed.findings.trans hfindings⟩
  case paused =>
    rw [closes hempty]
    exact closeEpoch_paused false (hcampaign ▸ hp)
  case done =>
    rw [closes hempty]
    exact closeEpoch_done false (hcampaign ▸ hp) ((congrArg _ hplanner).trans hq) (hkept.trans hempty)
  case builds =>
    obtain ⟨hsame, hplanning, hnumber⟩ :=
      closeEpoch_builds (s := withdraw s) false (hcampaign ▸ hp) (hplanner ▸ hq)
    rw [closes hempty]
    exact ⟨by rw [hsame, hcampaign, hrun], hplanning, hnumber.trans (by rw [hepoch]; rfl)⟩

end Sys2Proof.Machine
end

section
/-! The grace end (R114): the NO_REPORT gradings leg by leg, the misses of the nodes still OWED, and the close. -/

namespace Sys2Proof.Machine

/-! ## One NO_REPORT grading (R129, R132, R133) -/

section
variable (s : State) (y : Trial)

/-- The record that a NO_REPORT grading gives a leg, as the state stands (R129, R134). -/
def State.noReportOf (s : State) (l : LegIx) : LegResult :=
  (s.results.records.at l).noReport s.epoch.number s.campaign.retestLimit s.epoch.backup

theorem noReportOf_settled (l : LegIx) :
    (s.noReportOf l).settled
      = decide (¬(s.results.records.at l).attempts + 1 ≠ 1 + s.campaign.retestLimit) := by
  rw [Bool.eq_iff_iff]
  simp [State.noReportOf, LegResult.noReport, settles, Verdict.settlesAtOnce]

theorem gradeNoReport_results :
    (gradeNoReport s y).results
      = if (s.noReportOf y.leg).settled then (s.results.write y.leg (s.noReportOf y.leg)).count .noReport
        else s.results.write y.leg (s.noReportOf y.leg) := by
  unfold gradeNoReport settleOrRetest
  change State.results (if (s.noReportOf y.leg).settled then _ else _) = _
  split <;> rfl

theorem gradeNoReport_planner :
    (gradeNoReport s y).planner = { s.planner with
      queue := s.planner.queue ++ if (s.noReportOf y.leg).settled then [] else [y.leg]
      trials := s.planner.trials.map fun x => if x.number = y.number then { x with state := .graded } else x } := by
  unfold gradeNoReport settleOrRetest
  change (markGraded y.number (showLamps (if (s.noReportOf y.leg).settled then _ else _))).planner = _
  split
  · rw [List.append_nil]
    rfl
  · rfl

theorem gradeNoReport_record (l : LegIx) :
    (gradeNoReport s y).results.records.at l = if l = y.leg then s.noReportOf y.leg else s.results.records.at l := by
  rw [gradeNoReport_results]
  split <;> exact Table.at_put ..

theorem gradeNoReport_count (i : Fin 9) :
    (gradeNoReport s y).results.counts.at i
      = s.results.counts.at i + if i = 7 ∧ (s.noReportOf y.leg).settled then 1 else 0 := by
  rw [gradeNoReport_results]
  split
  next h =>
    refine (Table.at_change ..).trans ?_
    by_cases hi : i = 7
    · simp [hi, h, Results.write]
    · simp [hi, Results.write]
  next h => simp [h, Results.write]

/-- A grading changes what another leg's grading reads in nothing. -/
theorem gradeNoReport_noReportOf {l : LegIx} (h : l ≠ y.leg) : (gradeNoReport s y).noReportOf l = s.noReportOf l := by
  have hrecord := gradeNoReport_record s y l
  rw [if_neg h] at hrecord
  rw [State.noReportOf, hrecord, gradeNoReport_frame]
  rfl

theorem mem_heldTrials_gradeNoReport {x : Trial} (h : x ∈ heldTrials (gradeNoReport s y)) :
    x ∈ heldTrials s ∧ x.number ≠ y.number := by
  rw [mem_heldTrials, gradeNoReport_planner] at h
  obtain ⟨hmem, hheld⟩ := h
  obtain ⟨z, hz, rfl⟩ := List.mem_map.1 hmem
  split at hheld
  · cases hheld
  next hnumber =>
    rw [if_neg hnumber]
    exact ⟨(mem_heldTrials s z).2 ⟨hz, hheld⟩, hnumber⟩

end

/-! ## The gradings one after the other -/

section
variable (ys : List Trial) (s : State)

theorem gradeNoReports_frame :
    ys.foldl gradeNoReport s = { s with
      results := (ys.foldl gradeNoReport s).results, planner := (ys.foldl gradeNoReport s).planner
      campaign := { s.campaign with
        lamps := (ys.foldl gradeNoReport s).campaign.lamps
        blinkTimer := (ys.foldl gradeNoReport s).campaign.blinkTimer } } := by
  induction ys generalizing s with
  | nil => rfl
  | cons y ys ih => rw [List.foldl_cons, ih (gradeNoReport s y), gradeNoReport_frame s y]

/-- The gradings of other legs change nothing that a leg's own grading reads. -/
theorem noReportOf_after {y : Trial} {legs : List LegIx} (h : y.leg ∉ legs) :
    ∀ l ∈ legs, (gradeNoReport s y).noReportOf l = s.noReportOf l :=
  fun _ hl => gradeNoReport_noReportOf s y fun e => h (e ▸ hl)

theorem gradeNoReports_record (hlegs : (ys.map (·.leg)).Nodup) (l : LegIx) :
    (ys.foldl gradeNoReport s).results.records.at l
      = if l ∈ ys.map (·.leg) then s.noReportOf l else s.results.records.at l := by
  induction ys generalizing s with
  | nil => rfl
  | cons y ys ih =>
    obtain ⟨hy, hys⟩ := List.nodup_cons.1 hlegs
    rw [List.foldl_cons, ih (gradeNoReport s y) hys, gradeNoReport_record, List.map_cons]
    by_cases hl : l ∈ ys.map (·.leg)
    · rw [if_pos hl, noReportOf_after s hy l hl, if_pos (List.mem_cons_of_mem _ hl)]
    · rw [if_neg hl]
      by_cases he : l = y.leg
      · simp [he]
      · rw [if_neg he, if_neg (List.not_mem_cons_of_ne_of_not_mem he hl)]

/-- The NO_REPORT count rises by the legs the gradings settle, and no other count changes (R152). -/
theorem gradeNoReports_count (hlegs : (ys.map (·.leg)).Nodup) (i : Fin 9) :
    (ys.foldl gradeNoReport s).results.counts.at i
      = s.results.counts.at i
        + if i = 7 then ((ys.map (·.leg)).filter fun l => (s.noReportOf l).settled).length else 0 := by
  induction ys generalizing s with
  | nil => simp
  | cons y ys ih =>
    obtain ⟨hy, hys⟩ := List.nodup_cons.1 hlegs
    rw [List.foldl_cons, ih (gradeNoReport s y) hys, gradeNoReport_count,
      List.filter_congr fun l hl => by rw [noReportOf_after s hy l hl], List.map_cons, Nat.add_assoc]
    congr 1
    by_cases hi : i = 7
    · by_cases hset : (s.noReportOf y.leg).settled = true <;> simp [hi, hset, Nat.add_comm]
    · simp [hi]

/-- The legs the gradings do not settle join the tail of the queue, in the order graded (R133). -/
theorem gradeNoReports_queue (hlegs : (ys.map (·.leg)).Nodup) :
    (ys.foldl gradeNoReport s).planner.queue
      = s.planner.queue ++ (ys.map (·.leg)).filter fun l => !(s.noReportOf l).settled := by
  induction ys generalizing s with
  | nil => simp
  | cons y ys ih =>
    obtain ⟨hy, hys⟩ := List.nodup_cons.1 hlegs
    rw [List.foldl_cons, ih (gradeNoReport s y) hys, gradeNoReport_planner,
      List.filter_congr fun l hl => by rw [noReportOf_after s hy l hl], List.map_cons]
    by_cases hset : (s.noReportOf y.leg).settled = true <;> simp [hset]

theorem mem_heldTrials_gradeNoReports {x : Trial} (h : x ∈ heldTrials (ys.foldl gradeNoReport s)) :
    x ∈ heldTrials s ∧ ∀ y ∈ ys, x.number ≠ y.number := by
  induction ys generalizing s with
  | nil => exact ⟨h, by simp⟩
  | cons y ys ih =>
    obtain ⟨hmem, hothers⟩ := ih (gradeNoReport s y) h
    obtain ⟨hheld, hy⟩ := mem_heldTrials_gradeNoReport s y hmem
    exact ⟨hheld, List.forall_mem_cons.2 ⟨hy, hothers⟩⟩

end

/-! ## The settling of the grace (R114) -/

section
variable (s : State)

theorem settleGrace_frame :
    settleGrace s = { (heldTrials s).foldl gradeNoReport s with
      nodes := { s.nodes with probes := (settleGrace s).nodes.probes } } := by
  unfold settleGrace
  rw [missAll_frame, gradeNoReports_frame]

theorem settleGrace_cycleKept : CycleKept s (settleGrace s) := by
  rw [settleGrace_frame, gradeNoReports_frame]
  exact { CycleKept.refl s with }

/-- Each node still OWED takes one miss, and no other does (R29, R114). -/
theorem settleGrace_probe (n : Slot) :
    (settleGrace s).nodes.probes.at n
      = if standing s n = some .owed then (s.nodes.probes.at n).missed (s.p 7) else s.nodes.probes.at n := by
  unfold settleGrace
  rw [missAll_at (allSlots_filter_nodup _), gradeNoReports_frame]
  simp only [List.mem_filter, mem_allSlots, true_and, beq_iff_eq]
  rfl

/-- Every HELD trial is graded: none stays HELD. -/
theorem heldTrials_settleGrace : heldTrials (settleGrace s) = [] := by
  have hsame : heldTrials (settleGrace s) = heldTrials ((heldTrials s).foldl gradeNoReport s) := by
    rw [settleGrace_frame]
    rfl
  rw [hsame, List.eq_nil_iff_forall_not_mem]
  intro x hx
  obtain ⟨hheld, hnumbers⟩ := mem_heldTrials_gradeNoReports _ s hx
  exact hnumbers x hheld rfl

theorem settleGrace_leaves :
    (settleGrace s).findings = s.findings ∧ (settleGrace s).rail = s.rail ∧ (settleGrace s).epoch = s.epoch
      ∧ (settleGrace s).campaign.state = s.campaign.state
      ∧ (settleGrace s).campaign.pausePending = s.campaign.pausePending
      ∧ (settleGrace s).results = ((heldTrials s).foldl gradeNoReport s).results
      ∧ (settleGrace s).planner = ((heldTrials s).foldl gradeNoReport s).planner := by
  rw [settleGrace_frame, gradeNoReports_frame]
  exact ⟨rfl, rfl, rfl, rfl, rfl, rfl, rfl⟩

end

theorem exec_graceEnd {s : State} (hheld : s.held = none) (hgrace : s.epoch.state = .grace) :
    exec .graceEnd s = .next (closeEpoch true (settleGrace s)) := by
  have hrow : exec .graceEnd s = .next (graceEnds s) := congrArg _ (unlessHeld_of_none hheld)
  rw [hrow, graceEnds, if_pos hgrace]

/-- Settles O38: the gradings and misses of the grace end, and the normal close after them. -/
theorem graceEndSettles : Obligations.GraceEndSettles := by
  intro s hheld hrun hgrace _ hlegs attempts again queue
  have hsettled (l : LegIx) : (s.noReportOf l).settled = decide (¬again l) := noReportOf_settled s l
  have hagain (l : LegIx) : (!(s.noReportOf l).settled) = decide (again l) := by rw [hsettled]; simp
  obtain ⟨hfindings, hrail, hepoch, hstate, hpending, hresults, hplanner⟩ := settleGrace_leaves s
  have hqueue : (settleGrace s).planner.queue = queue := by
    rw [hplanner, gradeNoReports_queue _ s hlegs]
    simp only [hagain]
    rfl
  have closed := closeEpoch_closed true (settleGrace s)
  have cycle := (settleGrace_cycleKept s).trans closed.toCycleKept
  have hfinal := closed.results.trans hresults
  refine ⟨_, exec_graceEnd hheld hgrace, fun l hl => ?held, fun l hl => ?other, ?count, fun i hi => ?counts,
    closed.queue.trans hqueue, cycle.refs, closed.findings.trans hfindings, closed.rail.trans (by rw [hrail]; rfl),
    closed.lastEnded.trans (by rw [hepoch]), cycle.frame_of_findings (closed.findings.trans hfindings),
    fun n => ?misses, fun hp => ?paused, fun hp hq => ?done, fun hp hq => ?builds⟩
  case held =>
    rw [hfinal, gradeNoReports_record _ s hlegs, ← hsettled]
    exact if_pos hl
  case other =>
    rw [hfinal, gradeNoReports_record _ s hlegs]
    exact if_neg hl
  case count =>
    rw [hfinal, gradeNoReports_count _ s hlegs, if_pos rfl]
    simp only [hsettled]
    rfl
  case counts => rw [hfinal, gradeNoReports_count _ s hlegs, if_neg hi, Nat.add_zero]
  case misses =>
    rw [closed.misses, closed.state, settleGrace_probe]
    by_cases hn : standing s n = some .owed
    · rw [if_pos hn]
      exact ⟨fun _ => ⟨rfl, rfl⟩, fun h => absurd hn h⟩
    · rw [if_neg hn]
      exact ⟨fun h => absurd h hn, fun _ => ⟨rfl, rfl⟩⟩
  case paused =>
    obtain ⟨hpaused, -, hnone⟩ := closeEpoch_paused (s := settleGrace s) true (hpending.trans hp)
    exact ⟨hpaused, hnone⟩
  case done => exact closeEpoch_done true (hpending.trans hp) (hqueue.trans hq) (heldTrials_settleGrace s)
  case builds =>
    obtain ⟨hsame, hplanning, -⟩ :=
      closeEpoch_builds (s := settleGrace s) true (hpending.trans hp) (hqueue ▸ hq)
    exact ⟨by rw [hsame, hstate, hrun], hplanning⟩

end Sys2Proof.Machine
end

section
/-! The link map: the listen sets (R39), what the occupancy table of a list of records holds (R53), and the scan: the
records it passes keep the map law, and the error it stops at is true of the map (R47, R49, R50, R51). -/

namespace Sys2Proof.Machine

/-! ## The listen set -/

section
variable (r : Lane)

theorem mem_listenSet (l : Lane) : l ∈ listenSet r ↔ l.val + 1 = r.val ∨ l = r ∨ l.val = r.val + 1 := by
  unfold listenSet
  split_ifs <;> simp [Fin.ext_iff] <;> omega

theorem listenSet_ascending : (listenSet r).Pairwise (· < ·) := by
  have below (hr : 1 ≤ r.val) (h : r.val - 1 < 48) : (⟨r.val - 1, h⟩ : Lane) < r := Nat.sub_lt hr Nat.one_pos
  have above (h : r.val + 1 < 48) : r < (⟨r.val + 1, h⟩ : Lane) := Nat.lt_succ_self _
  unfold listenSet
  split_ifs with hlow <;> simp [below, above, hlow]

theorem length_listenSet : (listenSet r).length = if r.val = 0 ∨ r.val = 47 then 2 else 3 := by
  unfold listenSet
  split_ifs <;> simp <;> omega

end

/-- Settles O21: members, order and length, by whether the lane has a neighbour below and one above. -/
theorem listenSets : Obligations.ListenSets :=
  fun r => ⟨mem_listenSet r, listenSet_ascending r, length_listenSet r⟩

/-! ## The lane ends of records -/

/-- An in-use record names a lane end. -/
def LinkRecord.Names (r : LinkRecord) (e : LaneEnd) : Prop := r.inUse = true ∧ (r.endA = e ∨ r.endB = e)

theorem names_iff (m : MapStore) (k : LinkIx) (e : LaneEnd) : names m k e ↔ (m.links.at k).Names e := Iff.rfl

theorem LinkRecord.names_endA {r : LinkRecord} (h : r.inUse = true) : r.Names r.endA := ⟨h, .inl rfl⟩

theorem LinkRecord.names_endB {r : LinkRecord} (h : r.inUse = true) : r.Names r.endB := ⟨h, .inr rfl⟩

section
variable {krs : List (LinkIx × LinkRecord)} {e : LaneEnd}

/-- A taken entry holds the index of a record entered that names its lane end. -/
theorem enterEnds_taken {k : LinkIx} (h : (krs.foldl enterEnds allFree).at e.index = some k) :
    ∃ r, (k, r) ∈ krs ∧ r.Names e := by
  rcases foldl_enterEnds krs allFree e with ⟨⟨j, r⟩, hmem, hnames, hat⟩ | ⟨-, hat⟩
  · obtain rfl := Option.some.inj (h.symm.trans hat)
    exact ⟨r, hmem, hnames⟩
  · rw [h, allFree, Table.at_fill] at hat
    exact absurd hat (by simp)

/-- A FREE entry is that of a lane end which no record entered names. -/
theorem enterEnds_free (h : (krs.foldl enterEnds allFree).at e.index = none) : ∀ kr ∈ krs, ¬kr.2.Names e := by
  rcases foldl_enterEnds krs allFree e with ⟨kr, -, -, hat⟩ | ⟨hnone, -⟩
  · rw [h] at hat
    exact absurd hat (by simp)
  · exact hnone

end

section
variable {links : Table LinkRecord 480} {e : LaneEnd}

theorem occupancyOf_taken {k : LinkIx} (h : (occupancyOf links).at e.index = some k) : (links.at k).Names e := by
  obtain ⟨r, hmem, hnames⟩ := enterEnds_taken h
  rwa [(Table.mem_indexed ..).1 hmem] at hnames

theorem occupancyOf_free (h : (occupancyOf links).at e.index = none) (k : LinkIx) : ¬(links.at k).Names e :=
  enterEnds_free h (k, links.at k) ((Table.mem_indexed ..).2 rfl)

end

/-- Under the map law the occupancy table of the records gives each lane end the link that names it (R53). -/
theorem occupancyOf_iff {m : MapStore} (h : MapLaw m) (e : LaneEnd) (k : LinkIx) :
    (occupancyOf m.links).at e.index = some k ↔ names m k e := by
  refine ⟨occupancyOf_taken, fun hk => ?_⟩
  cases hat : (occupancyOf m.links).at e.index with
  | none => exact absurd hk (occupancyOf_free hat k)
  | some j => rw [h.1 j k e (occupancyOf_taken hat) hk]

/-! ## The scan -/

/-- What a scan has passed: ends in different slots, and no lane end named twice (R47). -/
structure Clean (krs : List (LinkIx × LinkRecord)) : Prop where
  slots : ∀ kr ∈ krs, kr.2.inUse = true → kr.2.endA.slot ≠ kr.2.endB.slot
  ends : krs.Pairwise fun a b => ∀ e, a.2.Names e → ¬b.2.Names e

theorem Clean.nil : Clean [] := ⟨by simp, .nil⟩

theorem Clean.snoc {seen : List (LinkIx × LinkRecord)} {kr : LinkIx × LinkRecord} (h : Clean seen)
    (hslots : kr.2.inUse = true → kr.2.endA.slot ≠ kr.2.endB.slot)
    (hends : ∀ a ∈ seen, ∀ e, a.2.Names e → ¬kr.2.Names e) : Clean (seen ++ [kr]) where
  slots := List.forall_mem_append.2 ⟨h.slots, List.forall_mem_singleton.2 hslots⟩
  ends := List.pairwise_append.2
    ⟨h.ends, List.pairwise_singleton .., fun a ha => List.forall_mem_singleton.2 (hends a ha)⟩

/-- A map whose records are clean keeps the map law (R47). -/
theorem Clean.mapLaw {m : MapStore} (h : Clean m.links.indexed) : MapLaw m := by
  have mem (k : LinkIx) : (k, m.links.at k) ∈ m.links.indexed := (Table.mem_indexed ..).2 rfl
  refine ⟨fun j k e hj hk => ?_, fun k => h.slots _ (mem k)⟩
  by_contra hjk
  have disjoint : Std.Symm (α := LinkIx × LinkRecord) fun a b => ∀ e, a.2.Names e → ¬b.2.Names e :=
    ⟨fun a b hab e hb ha => hab e ha hb⟩
  exact h.ends.forall (mem j) (mem k) (fun heq => hjk (congrArg Prod.fst heq)) e hj hk

/-- An error of a scan that is true of the map: the link is in use, and its ends lie in one slot or an earlier link
names the lane end told (R51). -/
def MapStore.Faults (m : MapStore) : ValError → Prop
  | .sameSlot k => (m.links.at k).inUse = true ∧ (m.links.at k).endA.slot = (m.links.at k).endB.slot
  | .doubleEnd k w j => j < k ∧ (m.links.at k).inUse = true
      ∧ names m j (if w = .a then (m.links.at k).endA else (m.links.at k).endB)
  | .none | .empty => False

theorem MapStore.Faults.not_mapLaw {m : MapStore} {err : ValError} (h : m.Faults err) : ¬MapLaw m := by
  intro hlaw
  cases err with
  | none | empty => exact h
  | sameSlot k => exact hlaw.2 k h.1 h.2
  | doubleEnd k w j =>
    obtain ⟨hlt, huse, hj⟩ := h
    refine hlt.ne (hlaw.1 j k _ hj ?_)
    cases w
    · exact LinkRecord.names_endA huse
    · exact LinkRecord.names_endB huse

/-- Records stand in the index in ascending order. -/
theorem indexed_before {t : Table α n} {seen rest : List (Fin n × α)} {j k : Fin n} {a b : α}
    (h : seen ++ (k, b) :: rest = t.indexed) (hj : (j, a) ∈ seen) : j < k := by
  have sorted : (t.indexed.map Prod.fst).Pairwise (· < ·) := by
    rw [Table.indexed_map_fst]
    exact List.pairwise_lt_finRange n
  rw [← h, List.map_append, List.pairwise_append] at sorted
  exact sorted.2.2 j (List.mem_map_of_mem hj) k (by simp)

/-! ### One record of the scan (R49) -/

section
variable {k : LinkIx} {r : LinkRecord} {rest : List (LinkIx × LinkRecord)} {occ : Table (Option LinkIx) 960}

theorem scanRecords_unused (h : ¬r.inUse = true) :
    scanRecords ((k, r) :: rest) occ = scanRecords rest (enterEnds occ (k, r)) := by
  have hskip : enterEnds occ (k, r) = occ := if_neg h
  rw [scanRecords, if_neg h, hskip]

section
variable (huse : r.inUse = true)
include huse

theorem scanRecords_sameSlot (hslot : r.endA.slot = r.endB.slot) :
    scanRecords ((k, r) :: rest) occ = .error (.sameSlot k) := by
  rw [scanRecords, if_pos huse, if_pos hslot]

variable (hslot : r.endA.slot ≠ r.endB.slot)
include hslot

theorem scanRecords_takenA {j : LinkIx} (hA : occ.at r.endA.index = some j) :
    scanRecords ((k, r) :: rest) occ = .error (.doubleEnd k .a j) := by
  simp only [scanRecords, if_pos huse, if_neg hslot, hA]

omit huse in
/-- End A's own entry is not that of end B. -/
theorem put_endA_at_endB (occ : Table (Option LinkIx) 960) :
    (occ.put r.endA.index (some k)).at r.endB.index = occ.at r.endB.index :=
  Table.at_put_ne _ _ _ _ fun h => hslot (congrArg _ (LaneEnd.index_injective h).symm)

theorem scanRecords_takenB {j : LinkIx} (hA : occ.at r.endA.index = none) (hB : occ.at r.endB.index = some j) :
    scanRecords ((k, r) :: rest) occ = .error (.doubleEnd k .b j) := by
  simp only [scanRecords, if_pos huse, if_neg hslot, hA, put_endA_at_endB hslot, hB]

theorem scanRecords_passes (hA : occ.at r.endA.index = none) (hB : occ.at r.endB.index = none) :
    scanRecords ((k, r) :: rest) occ = scanRecords rest (enterEnds occ (k, r)) := by
  simp only [scanRecords, if_pos huse, if_neg hslot, hA, put_endA_at_endB hslot, hB, enterEnds]

end

end

/-- The scan of the records not yet seen, on the entries of those it has passed (R49). -/
theorem scanRecords_cases {m : MapStore} (rest seen : List (LinkIx × LinkRecord))
    (hall : seen ++ rest = m.links.indexed) (hclean : Clean seen) :
    (scanRecords rest (seen.foldl enterEnds allFree) = .ok (occupancyOf m.links) ∧ Clean m.links.indexed)
      ∨ ∃ err, scanRecords rest (seen.foldl enterEnds allFree) = .error err ∧ m.Faults err := by
  induction rest generalizing seen with
  | nil =>
    rw [List.append_nil] at hall
    subst hall
    exact .inl ⟨rfl, hclean⟩
  | cons kr rest ih =>
    obtain ⟨k, r⟩ := kr
    obtain rfl : r = m.links.at k := (Table.mem_indexed ..).1 (hall ▸ by simp)
    have next := ih (seen ++ [(k, m.links.at k)]) (by rw [← hall, List.append_assoc]; rfl)
    rw [List.foldl_append, List.foldl_cons, List.foldl_nil] at next
    have earlier {e : LaneEnd} {j : LinkIx} (hat : (seen.foldl enterEnds allFree).at e.index = some j) :
        j < k ∧ names m j e := by
      obtain ⟨q, hmem, hnames⟩ := enterEnds_taken hat
      obtain rfl : q = m.links.at j := (Table.mem_indexed ..).1 (hall ▸ List.mem_append_left _ hmem)
      exact ⟨indexed_before hall hmem, hnames⟩
    by_cases huse : (m.links.at k).inUse = true
    case neg =>
      rw [scanRecords_unused huse]
      exact next (hclean.snoc (fun h => absurd h huse) fun _ _ _ _ h => huse h.1)
    by_cases hslot : (m.links.at k).endA.slot = (m.links.at k).endB.slot
    case pos => exact .inr ⟨_, scanRecords_sameSlot huse hslot, huse, hslot⟩
    cases hA : (seen.foldl enterEnds allFree).at (m.links.at k).endA.index with
    | some j =>
      obtain ⟨hlt, hj⟩ := earlier hA
      exact .inr ⟨_, scanRecords_takenA huse hslot hA, hlt, huse, hj⟩
    | none =>
      cases hB : (seen.foldl enterEnds allFree).at (m.links.at k).endB.index with
      | some j =>
        obtain ⟨hlt, hj⟩ := earlier hB
        exact .inr ⟨_, scanRecords_takenB huse hslot hA hB, hlt, huse, hj⟩
      | none =>
        rw [scanRecords_passes huse hslot hA hB]
        refine next (hclean.snoc (fun _ => hslot) ?_)
        rintro a ha e hae ⟨-, rfl | rfl⟩
        · exact enterEnds_free hA a ha hae
        · exact enterEnds_free hB a ha hae

section
variable {m : MapStore}

/-- The scan passes the working map and has filled its occupancy table, or stops at an error true of it (R49). -/
theorem scan_cases (m : MapStore) :
    (m.scan = .ok (occupancyOf m.links) ∧ MapLaw m) ∨ ∃ err, m.scan = .error err ∧ m.Faults err :=
  (scanRecords_cases m.links.indexed [] rfl .nil).imp_left fun ⟨hok, hclean⟩ => ⟨hok, hclean.mapLaw⟩

/-- VALID is granted to a non-empty map that keeps the map law (R50). -/
theorem scanned_valid (hne : 1 ≤ m.inUse) (hlaw : MapLaw m) :
    m.scanned = { m with status := .valid, occupancy := occupancyOf m.links } := by
  rcases scan_cases m with ⟨hok, -⟩ | ⟨err, -, hfault⟩
  · rw [MapStore.scanned, hok]
    exact if_neg (by omega)
  · exact absurd hlaw hfault.not_mapLaw

/-- Any other map is FAULTY, with an error true of it (R51). -/
theorem scanned_faulty (h : ¬(1 ≤ m.inUse ∧ MapLaw m)) :
    ∃ err, m.scanned = { m with status := .faulty, error := err, occupancy := allFree }
      ∧ (m.Faults err ∨ (err = .empty ∧ m.inUse = 0)) := by
  rcases scan_cases m with ⟨hok, hlaw⟩ | ⟨err, herr, hfault⟩
  · have hempty : m.inUse = 0 := by
      by_contra hne
      exact h ⟨by omega, hlaw⟩
    refine ⟨.empty, ?_, .inr ⟨rfl, hempty⟩⟩
    rw [MapStore.scanned, hok]
    exact if_pos hempty
  · exact ⟨err, by rw [MapStore.scanned, herr], .inl hfault⟩

end

theorem exec_scanComplete {s : State} (hheld : s.held = none) (h : s.map.status = .checking) :
    exec .scanComplete s = .next { s with map := s.map.scanned } := by
  have hrow : exec .scanComplete s = .next (completeScan s) := congrArg _ (unlessHeld_of_none hheld)
  rw [hrow, completeScan, if_pos h]
  rfl

/-- Settles O23: by whether the map is non-empty and keeps the map law. -/
theorem scanGrantsValid : Obligations.ScanGrantsValid := by
  intro s hheld hchecking hnone _
  rw [exec_scanComplete hheld hchecking]
  by_cases h : 1 ≤ s.map.inUse ∧ MapLaw s.map
  · rw [scanned_valid h.1 h.2]
    refine ⟨_, rfl, ?_, fun _ hlaw => ⟨rfl, hnone, fun e k => ?_⟩, fun hn => absurd h hn, ?_⟩
    · rfl
    · exact occupancyOf_iff hlaw e k
    · simp only [hnone]
      exact ⟨nofun, nofun, nofun⟩
  · obtain ⟨err, hscanned, herr⟩ := scanned_faulty h
    rw [hscanned]
    refine ⟨_, rfl, rfl, fun hne hlaw => absurd ⟨hne, hlaw⟩ h, fun _ => ⟨rfl, ?_, rfl⟩, ?_, ?_, ?_⟩
    · rintro rfl
      simp [MapStore.Faults] at herr
    · rintro k rfl
      simpa [MapStore.Faults] using herr
    · rintro k w j rfl
      simpa [MapStore.Faults] using herr
    · rintro rfl
      exact herr.elim False.elim And.right

end Sys2Proof.Machine
end

section
/-! The bodies of the nonvolatile store (R166, R181): the records written into a generation are read back from it, and
its check value holds. -/

namespace Sys2Proof.Machine

theorem toNat_byteOf {n : Nat} (h : n < 256) : (byteOf n).toNat = n := by
  simp [byteOf, Nat.mod_eq_of_lt h]

/-- A record as the map holds it: in use, or with the values of a record not in use (R36). -/
def LinkRecord.Stored (r : LinkRecord) : Prop := r.inUse = true ∨ r = LinkRecord.unused

/-! ## One record -/

theorem laneEndOf_byteOf (e : LaneEnd) : laneEndOf (byteOf e.slot) (byteOf e.lane) = some e := by
  have hslot : (byteOf e.slot).toNat = e.slot := toNat_byteOf (by omega)
  have hlane : (byteOf e.lane).toNat = e.lane := toNat_byteOf (by omega)
  simp [laneEndOf, hslot, hlane]

theorem dirSetOf_code (d : DirSet) : dirSetOf d.code = some d := by cases d <;> rfl

theorem DirSet.code_lt (d : DirSet) : d.code < 16 := by cases d <;> decide

theorem LinkRecord.bytes_inUse {r : LinkRecord} (h : r.inUse = true) :
    r.bytes = [byteOf r.endA.slot, byteOf r.endA.lane, byteOf r.endB.slot, byteOf r.endB.lane,
      byteOf (r.cls * 16 + r.dirs.code)] := if_pos h

/-- The five bytes of an in-use record spell it (R178). -/
theorem linkOf_inUse {r : LinkRecord} (h : r.inUse = true) :
    linkOf (byteOf r.endA.slot) (byteOf r.endA.lane) (byteOf r.endB.slot) (byteOf r.endB.lane)
      (byteOf (r.cls * 16 + r.dirs.code)) = some r := by
  have hslot : byteOf r.endA.slot ≠ 255#8 := by
    intro heq
    have := congrArg BitVec.toNat heq
    rw [toNat_byteOf (by omega)] at this
    simp at this
    omega
  have hcode := r.dirs.code_lt
  have htail : (byteOf (r.cls * 16 + r.dirs.code)).toNat = r.cls * 16 + r.dirs.code := toNat_byteOf (by omega)
  have hdirs : (r.cls * 16 + r.dirs.code) % 16 = r.dirs.code := by omega
  have hcls : (r.cls * 16 + r.dirs.code) / 16 = r.cls := by omega
  obtain ⟨inUse, endA, endB, cls, dirs⟩ := r
  subst h
  simp [linkOf, hslot, laneEndOf_byteOf, htail, hdirs, hcls, dirSetOf_code]

/-- What passes the range test is a record as the map holds it (R42). -/
theorem linkOf_stored {a b c d t : Byte} {r : LinkRecord} (h : linkOf a b c d t = some r) : r.Stored := by
  unfold linkOf at h
  split at h
  · exact .inr (Option.some.inj h).symm
  · split at h
    · split at h
      · obtain rfl := Option.some.inj h
        exact .inl rfl
      · cases h
    · cases h

/-- A run of bytes that spells records: each group of five is one, in order, and what is left over is not read. -/
theorem linksOf_some {bytes : List Byte} {rs : List LinkRecord} (h : linksOf bytes = some rs) :
    rs.length = bytes.length / 5 ∧ ∀ r ∈ rs, r.Stored := by
  induction bytes using linksOf.induct generalizing rs with
  | case1 sa la sb lb t rest r rs' hrs hr ih =>
    obtain rfl : r :: rs' = rs := by simpa [linksOf, hr, hrs] using h
    obtain ⟨hlen, hstored⟩ := ih hrs
    exact ⟨by simp [hlen]; omega, List.forall_mem_cons.2 ⟨linkOf_stored hr, hstored⟩⟩
  | case2 sa la sb lb t rest hnone _ =>
    rw [linksOf] at h
    split at h
    next r rs' hr hrs => exact (hnone r rs' hr hrs).elim
    next => cases h
  | case3 bytes hshort =>
    rcases bytes with _ | ⟨_, _ | ⟨_, _ | ⟨_, _ | ⟨_, _ | ⟨_, _⟩⟩⟩⟩⟩
    case cons.cons.cons.cons.cons => exact (hshort _ _ _ _ _ _ rfl).elim
    all_goals
      obtain rfl := Option.some.inj h
      simp

/-! ## The records of a body -/

/-- Records written one after the other are read back, whatever follows them. -/
theorem readRecords_bytes {rs : List LinkRecord} (h : ∀ r ∈ rs, r.Stored) (rest : List Byte) :
    readRecords rs.length (rs.flatMap LinkRecord.bytes ++ rest) = rs := by
  induction rs with
  | nil => rfl
  | cons r rs ih =>
    obtain ⟨hr, hrs⟩ := List.forall_mem_cons.1 h
    rcases hr with huse | rfl
    · simp [LinkRecord.bytes_inUse huse, readRecords, linkOf_inUse huse, ih hrs]
    · simp [LinkRecord.bytes, LinkRecord.unused, readRecords, linkOf] at ih ⊢
      exact ih hrs

theorem readRecords_stored (n : Nat) (bytes : List Byte) : ∀ r ∈ readRecords n bytes, r.Stored := by
  fun_induction readRecords n bytes with
  | case1 => simp
  | case2 n sa la sb lb t rest ih =>
    refine List.forall_mem_cons.2 ⟨?_, ih⟩
    cases h : linkOf sa la sb lb t with
    | none => exact .inr rfl
    | some r => exact linkOf_stored h
  | case3 n bytes hshort ih => exact List.forall_mem_cons.2 ⟨.inr rfl, ih⟩

theorem linksOfBody_stored (body : List Byte) (k : LinkIx) : ((linksOfBody body).at k).Stored :=
  readRecords_stored _ _ _ (List.getElem_mem _)

theorem LinkRecord.length_bytes (r : LinkRecord) : r.bytes.length = 5 := by
  unfold LinkRecord.bytes
  split <;> rfl

theorem length_linkBytes (rs : List LinkRecord) : (rs.flatMap LinkRecord.bytes).length = 5 * rs.length := by
  induction rs with
  | nil => rfl
  | cons r rs ih => simp [LinkRecord.length_bytes, ih]; omega

/-! ## The check value -/

theorem length_withCheck (bytes : List Byte) : (withCheck bytes).length = bytes.length + 2 := by
  simp [withCheck, be16]

/-- A body closed by its check value is intact (R166). -/
theorem intact_withCheck (bytes : List Byte) : intact (withCheck bytes) = true := by
  have hlen := length_withCheck bytes
  simp [intact, hlen]
  simp [withCheck]

/-! ## A generation -/

section
variable (n : NvIx) {links : Table LinkRecord 480}

theorem length_generationBody : (generationBody n links).length = 2403 := by
  rw [generationBody, length_withCheck, List.length_cons, length_linkBytes, Vector.length_toList]

theorem linksOfBody_generationBody (h : ∀ k, (links.at k).Stored) : linksOfBody (generationBody n links) = links := by
  have hmem : ∀ r ∈ links.toList, r.Stored := by
    intro r hr
    obtain ⟨i, hi, rfl⟩ := List.getElem_of_mem hr
    exact h ⟨i, by simpa using hi⟩
  have hread := readRecords_bytes hmem
    (be16 (crc16 (byteOf (n.val + 1) :: links.toList.flatMap LinkRecord.bytes)).toNat)
  rw [Vector.length_toList] at hread
  exact Vector.toList_inj.1 hread

end

/-- Settles O48: length, number and check value of the body, and the records read back from it. -/
theorem burnedMapLoads : Obligations.BurnedMapLoads :=
  fun n _ h => ⟨length_generationBody n, rfl, intact_withCheck _, linksOfBody_generationBody n h⟩

end Sys2Proof.Machine
end

section
/-! The POWER and PIN resets (R76): the generation they load (R175, R176), and what they leave in every block. -/

namespace Sys2Proof.Machine

/-! ## The generation to load -/

/-- A slot whose generation can be loaded: DONE, with a body that passes its check (R175). -/
def NvSlot.Whole (x : NvSlot) : Prop := x.isDone = true ∧ intact x.body = true

theorem whole_iff {x : NvSlot} : (x.begun = true ∧ x.done = true) ∧ intact x.body = true ↔ x.Whole := by
  rw [NvSlot.Whole, isDone_iff]

section
variable {gens : Table NvSlot 4}

/-- Slots that cannot be loaded are passed over; a DONE one among them is told. -/
theorem examine_passes (before ns : List NvIx) (passed : Bool) (h : ∀ m ∈ before, ¬(gens.at m).Whole) :
    examine gens (before ++ ns) passed = examine gens ns (passed || before.any fun m => (gens.at m).isDone) := by
  induction before generalizing passed with
  | nil => simp
  | cons m before ih =>
    obtain ⟨hm, hbefore⟩ := List.forall_mem_cons.1 h
    by_cases hdone : (gens.at m).isDone = true
    · have hbroken : intact (gens.at m).body = false := Bool.eq_false_iff.2 fun hi => hm ⟨hdone, hi⟩
      simp [examine, hdone, hbroken, ih _ hbefore]
    · simp [examine, hdone, ih _ hbefore]

theorem examine_finds {n : NvIx} (ns : List NvIx) (passed : Bool) (h : (gens.at n).Whole) :
    examine gens (n :: ns) passed = (some n, passed) := by
  rw [examine, if_pos h.1, if_pos h.2]

theorem examine_whole {n : NvIx} {ns : List NvIx} {passed : Bool} (h : (examine gens ns passed).1 = some n) :
    (gens.at n).Whole := by
  induction ns generalizing passed with
  | nil => cases h
  | cons m ns ih =>
    rw [examine] at h
    split_ifs at h with hdone hintact
    · obtain rfl := Option.some.inj h
      exact ⟨hdone, hintact⟩
    · exact ih h
    · exact ih h

/-- The slots are examined from above: those above a slot come before it. -/
theorem nvSlots_split : ∀ n : NvIx,
    nvSlots.reverse = nvSlots.reverse.filter (n < ·) ++ n :: nvSlots.reverse.filter (· < n) := by decide

theorem mem_nvSlots : ∀ n : NvIx, n ∈ nvSlots := by decide

/-- The highest generation that can be loaded is chosen, and the flag tells a DONE slot above it (R175). -/
theorem chooseGeneration_some {n : NvIx} (h : (gens.at n).Whole) (habove : ∀ m, n < m → ¬(gens.at m).Whole) :
    (chooseGeneration gens).1 = some n
      ∧ ((chooseGeneration gens).2 = true ↔ ∃ m, n < m ∧ (gens.at m).isDone = true) := by
  have hpassed : ∀ m ∈ nvSlots.reverse.filter (n < ·), ¬(gens.at m).Whole :=
    fun m hm => habove m (by simpa using (List.mem_filter.1 hm).2)
  rw [chooseGeneration, nvSlots_split n, examine_passes _ _ _ hpassed, examine_finds _ _ h]
  refine ⟨rfl, ?_⟩
  simp [mem_nvSlots]

/-- With none that can be loaded, the flag tells any DONE slot (R175). -/
theorem chooseGeneration_none (h : ∀ m, ¬(gens.at m).Whole) :
    (chooseGeneration gens).1 = none ∧ ((chooseGeneration gens).2 = true ↔ ∃ m, (gens.at m).isDone = true) := by
  have hpassed := examine_passes nvSlots.reverse [] false fun m _ => h m
  rw [List.append_nil] at hpassed
  rw [chooseGeneration, hpassed, examine]
  simp [mem_nvSlots]

theorem loadMap_some {n : NvIx} (h : (chooseGeneration gens).1 = some n) :
    loadMap gens = MapStore.loaded n (linksOfBody (gens.at n).body) := by
  rw [loadMap, h]

theorem loadMap_none (h : (chooseGeneration gens).1 = none) : loadMap gens = MapStore.empty := by
  rw [loadMap, h]

end

section
variable {n : NvIx} {links : Table LinkRecord 480} {e : LaneEnd}

theorem loaded_taken {k : LinkIx} (h : (MapStore.loaded n links).occupancy.at e.index = some k) :
    names (MapStore.loaded n links) k e :=
  occupancyOf_taken (links := links) h

theorem loaded_free (h : (MapStore.loaded n links).occupancy.at e.index = none) (k : LinkIx) :
    ¬names (MapStore.loaded n links) k e :=
  occupancyOf_free (links := links) h k

end

/-! ## The rows of the resets -/

theorem exec_nresetAsserted {s : State} (h : s.held = none) : exec .nresetAsserted s = .next (beginHold .pin s) := by
  show Host.Outcome.next (if s.held.isSome then s else beginHold .pin s) = _
  rw [h]
  rfl

theorem exec_pinReset (dominant : Bool) (s : State) :
    exec (.pinReset dominant) s = .next (finishReset (kindEnding s.held) dominant s) := rfl

/-- Settles O49: a reset that ends, block by block with the generation examined, and a reset that begins. -/
theorem resetsLeave : Obligations.ResetsLeave := by
  intro dominant s after quiet
  have finished (kind : ResetKind) (u : State) (hpins : u.nodes.presence = s.nodes.presence)
      (hbelow : u.rail.below = s.rail.below) : after kind u.nv (finishReset kind dominant u) := by
    refine ⟨rfl, rfl, rfl, rfl, rfl, rfl, rfl, rfl, rfl, rfl, rfl, rfl, rfl, rfl, ?probes, rfl, rfl, rfl, ?presence,
      rfl, rfl, rfl, rfl, rfl, rfl, rfl, rfl, rfl, rfl, rfl, rfl, ?rail, rfl, rfl, rfl, rfl, rfl, rfl, ?loads, ?empty⟩
    case probes => exact Table.at_fill 20 _
    case presence =>
      intro n low
      exact (Table.at_each ..).trans (congrArg (fun f => PresenceFilter.afterReset f.low) (congrArg (·.at n) hpins))
    case rail => exact hbelow ▸ rfl
    case loads =>
      intro n hn habove
      obtain ⟨hload, hfallback⟩ := chooseGeneration_some (whole_iff.1 hn) fun m hm => mt whole_iff.2 (habove m hm)
      simp only [isDone_iff] at hfallback
      have hmap : (finishReset kind dominant u).map = _ := loadMap_some hload
      rw [hmap]
      exact ⟨rfl, rfl, rfl, rfl, hfallback, rfl, fun _ _ => loaded_taken, fun _ => loaded_free⟩
    case empty =>
      intro hnone
      obtain ⟨hload, hfallback⟩ := chooseGeneration_none fun m => mt whole_iff.2 (hnone m)
      simp only [isDone_iff] at hfallback
      exact ⟨loadMap_none hload, hfallback⟩
  have held (kind : ResetKind) (u : State) : quiet kind u.nv (beginHold kind u) :=
    ⟨rfl, rfl, rfl, rfl, rfl, rfl, rfl, rfl⟩
  refine ⟨fun decay => ⟨⟨_, rfl, ?_⟩, ⟨_, rfl, ?_⟩⟩, fun hkind => ⟨_, exec_pinReset dominant s, ?_⟩,
    fun hkind => ⟨_, exec_pinReset dominant s, ?_⟩, fun hheld => ⟨_, exec_nresetAsserted hheld, held .pin s⟩⟩
  · exact finished .power (decayStore decay s) rfl rfl
  · exact held .power (decayStore decay s)
  · rw [kindEnding, if_neg hkind]
    exact finished .pin s rfl rfl
  · rw [kindEnding, if_pos hkind]
    exact finished .power s rfl rfl

end Sys2Proof.Machine
end

section
/-! MAP_WRITE and MAP_VALIDATE (R41 to R45, R48): the records a write stores, the edit it signals to the campaign, and
the answers of the Link Map Store. -/

namespace Sys2Proof.Machine

/-- A request of the ACTIVE station of a kind that needs no arm, by what its owner answers (R12, R30). -/
theorem exec_station_answered {k : RequestKind} {header : Byte} {payload : List Byte} {s t : State} {a : Answer}
    (hmay : stationMay header s) (hp : payload.length ≤ 30)
    (hk : k ∉ [RequestKind.fetch, .report, .mapBurn, .certCommit, .restart])
    (ha : ownerAnswers k .station payload (heard header k.byte payload s) = (t, a)) :
    exec (requestRow k header payload) s = .next (replied header a t) := by
  simp only [List.mem_cons, List.not_mem_nil, or_false, not_or] at hk
  obtain ⟨hfetch, hreport, hburn, hcommit, hrestart⟩ := hk
  have hfree : ¬isProtected k = true := by simp [isProtected_iff, hburn, hcommit, hrestart]
  rw [exec_station hmay hp hfetch hreport fun h => absurd h hfree, ha]

/-! ## The records written (R43) -/

/-- A write puts its records at consecutive indices from the start and keeps every other record. -/
theorem writeLinks_at (rs : List LinkRecord) (start : Nat) (links : Table LinkRecord 480) (k : LinkIx) :
    (writeLinks start rs links).at k
      = (if start ≤ k.val then rs[k.val - start]? else none).getD (links.at k) := by
  induction rs generalizing start links with
  | nil => simp [writeLinks]
  | cons r rs ih =>
    have hother (hne : k.val ≠ start) :
        (if h : start < 480 then links.put ⟨start, h⟩ r else links).at k = links.at k := by
      split
      · exact Table.at_put_ne _ _ _ _ fun h => hne (congrArg Fin.val h)
      · rfl
    rw [writeLinks, ih]
    rcases lt_trichotomy k.val start with hlt | rfl | hgt
    · rw [if_neg (by omega), if_neg (by omega), hother (by omega)]
    · simp
    · have hnext : k.val - start = k.val - (start + 1) + 1 := by omega
      rw [if_pos (by omega), if_pos (by omega), hother (by omega), hnext, List.getElem?_cons_succ]

theorem writeLinks_stored {rs : List LinkRecord} {links : Table LinkRecord 480} (start : Nat)
    (hrs : ∀ r ∈ rs, r.Stored) (h : ∀ k, (links.at k).Stored) (k : LinkIx) :
    ((writeLinks start rs links).at k).Stored := by
  rw [writeLinks_at]
  cases hk : (if start ≤ k.val then rs[k.val - start]? else none) with
  | none => exact h k
  | some r =>
    split_ifs at hk
    exact hrs r (List.mem_of_getElem? hk)

/-! ## The edit signalled to the campaign (R45, R148) -/

section
variable {s : State}

theorem mapEdit_idle (h : s.campaign.state = .idle) : mapEdit s = s := by
  simp [mapEdit, h]

theorem mapEdit_ended (h : s.campaign.state = .done ∨ s.campaign.state = .aborted) :
    mapEdit s = { s with
      results := Results.cleared
      findings := Findings.cleared
      timebase := (applyReturn s).timebase
      campaign := { s.campaign with
        state := .idle, result := .none, certified := false, lamps := Lamps.off, blinkTimer := none } } := if_pos h

theorem mapEdit_map (s : State) : (mapEdit s).map = s.map := by
  unfold mapEdit
  split <;> rfl

theorem mapEdit_nv (s : State) : (mapEdit s).nv = s.nv := by
  unfold mapEdit
  split <;> rfl

theorem ended_of_settled (hlive : s.campaign.state.live = false) (hidle : s.campaign.state ≠ .idle) :
    s.campaign.state = .done ∨ s.campaign.state = .aborted := by
  cases hc : s.campaign.state <;> simp_all [CampaignState.live]

end

/-! ## The answers of the Link Map Store -/

section
variable {s : State} {payload : List Byte} {hi lo : Byte} {bytes : List Byte} {rs : List LinkRecord}

theorem answerMapWrite_malformed (h : mapWriteLength payload.length = false) :
    answerMapWrite payload s = (s, .refusal .malformed) := by
  simp [answerMapWrite, h]

theorem answerMapWrite_field (hlen : mapWriteLength (hi :: lo :: bytes).length = true) (h : linksOf bytes = none) :
    answerMapWrite (hi :: lo :: bytes) s = (s, .refusal .range) := by
  rw [answerMapWrite, if_neg (not_not.2 hlen)]
  simp only [h]

theorem answerMapWrite_index (hlen : mapWriteLength (hi :: lo :: bytes).length = true) (h : linksOf bytes = some rs)
    (hover : 480 < num16 hi lo + rs.length) : answerMapWrite (hi :: lo :: bytes) s = (s, .refusal .range) := by
  rw [answerMapWrite, if_neg (not_not.2 hlen)]
  simp only [h, if_pos hover]

section
variable (hlen : mapWriteLength (hi :: lo :: bytes).length = true) (h : linksOf bytes = some rs)
  (hfits : num16 hi lo + rs.length ≤ 480)
include hlen h hfits

theorem answerMapWrite_live (hlive : s.campaign.state.live = true) :
    answerMapWrite (hi :: lo :: bytes) s = (s, .refusal .state) := by
  have hset : ¬s.campaign.state.settled = true := by simp [settled_iff_not_live, hlive]
  rw [answerMapWrite, if_neg (not_not.2 hlen)]
  simp only [h, if_neg (Nat.not_lt.2 hfits), if_pos hset]

theorem answerMapWrite_busy (hlive : s.campaign.state.live = false)
    (hbusy : s.map.status = .checking ∨ s.nv.state ≠ .idle) :
    answerMapWrite (hi :: lo :: bytes) s = (s, .refusal .busy) := by
  have hset : ¬¬s.campaign.state.settled = true := not_not.2 ((settled_iff_not_live _).2 hlive)
  rw [answerMapWrite, if_neg (not_not.2 hlen)]
  simp only [h, if_neg (Nat.not_lt.2 hfits), if_neg hset, if_pos hbusy]

theorem answerMapWrite_stores (hlive : s.campaign.state.live = false)
    (hready : ¬(s.map.status = .checking ∨ s.nv.state ≠ .idle)) :
    answerMapWrite (hi :: lo :: bytes) s
      = (mapEdit { s with map := s.map.edited (num16 hi lo) rs },
        ⟨.ok, byteOf rs.length :: be16 (s.map.edited (num16 hi lo) rs).inUse⟩) := by
  have hset : ¬¬s.campaign.state.settled = true := not_not.2 ((settled_iff_not_live _).2 hlive)
  rw [answerMapWrite, if_neg (not_not.2 hlen)]
  simp only [h, if_neg (Nat.not_lt.2 hfits), if_neg hset, if_neg hready]
  rfl

end

/-- Whatever a MAP_WRITE carries, its owner leaves the state alone or stores records as the map holds them. -/
theorem answerMapWrite_cases (payload : List Byte) (s : State) :
    (answerMapWrite payload s).1 = s
      ∨ ∃ start rs, (∀ r ∈ rs, LinkRecord.Stored r)
          ∧ (answerMapWrite payload s).1 = mapEdit { s with map := s.map.edited start rs } := by
  unfold answerMapWrite
  split
  · exact .inl rfl
  · split
    · split
      · exact .inl rfl
      next rs hrs =>
        split_ifs
        · exact .inl rfl
        · exact .inl rfl
        · exact .inr ⟨_, rs, (linksOf_some hrs).2, rfl⟩
        · exact .inl rfl
    · exact .inl rfl

theorem answerMapValidate_live (hlive : s.campaign.state.live = true) :
    answerMapValidate [] s = (s, .refusal .state) := by
  simp [answerMapValidate, settled_iff_not_live, hlive]

theorem answerMapValidate_busy (hlive : s.campaign.state.live = false)
    (hbusy : s.map.status = .checking ∨ s.nv.state ≠ .idle) : answerMapValidate [] s = (s, .refusal .busy) := by
  simp [answerMapValidate, settled_iff_not_live, hlive, hbusy]

theorem answerMapValidate_begins (hlive : s.campaign.state.live = false) (hmap : s.map.status ≠ .checking)
    (hnv : s.nv.state = .idle) : answerMapValidate [] s = (s.onMap MapStore.checking, ⟨.accepted, []⟩) := by
  simp [answerMapValidate, settled_iff_not_live, hlive, hmap, hnv]

end

theorem mapWriteLength_iff (n : Nat) : mapWriteLength n = true ↔ n ∈ [7, 12, 17, 22, 27] := by
  simp [mapWriteLength, or_assoc]

/-- Settles O22: the tests of a MAP_WRITE in order, what it stores in IDLE and after a campaign, and MAP_VALIDATE. -/
theorem mapWriteAndValidate : Obligations.MapWriteAndValidate := by
  refine ⟨fun header s hmay => ⟨fun payload hp hlen => ?malformed, ?whole⟩, fun header s hmay => ?validate⟩
  case malformed =>
    have hbad : mapWriteLength payload.length = false := Bool.eq_false_iff.2 (mt (mapWriteLength_iff _).1 hlen)
    exact exec_station_answered (k := .mapWrite) hmay hp (by decide) (answerMapWrite_malformed hbad)
  case whole =>
    intro hi lo bytes count hlow hhigh hbytes first payload refused busy
    have hp : payload.length ≤ 30 := by simp [payload, hbytes]; omega
    have hlen : mapWriteLength payload.length = true := by
      rw [mapWriteLength_iff]
      simp [payload, hbytes]
      omega
    have run {t : State} {a : Answer} (ha : answerMapWrite payload (heard header 0x20#8 payload s) = (t, a)) :
        exec (.mapWrite header payload) s = .next (replied header a t) :=
      exec_station_answered (k := .mapWrite) hmay hp (by decide) ha
    have hcount {rs : List LinkRecord} (hrs : linksOf bytes = some rs) : rs.length = count := by
      rw [(linksOf_some hrs).1, hbytes]
      omega
    refine ⟨fun hrange => ?range, fun rs hrs hfits => ?accepted⟩
    case range =>
      cases hrs : linksOf bytes with
      | none => exact run (answerMapWrite_field hlen hrs)
      | some rs =>
        have hover := hrange.resolve_left (by simp [hrs])
        exact run (answerMapWrite_index hlen hrs (by rwa [hcount hrs]))
    case accepted =>
      have hfits' : num16 hi lo + rs.length ≤ 480 := by rwa [hcount hrs]
      refine ⟨fun hlive => run (answerMapWrite_live hlen hrs hfits' hlive),
        fun hlive hbusy => run (answerMapWrite_busy hlen hrs hfits' hlive hbusy), fun hlive hready links hlinks => ?_⟩
      have hwritten : links = writeLinks first rs s.map.links :=
        Table.ext_at fun k => (hlinks k).trans (writeLinks_at ..).symm
      have hstores := run (answerMapWrite_stores hlen hrs hfits' hlive hready)
      rw [hcount hrs] at hstores
      intro map' s' answer
      have hmap : (heard header 0x20#8 payload s).map.edited (num16 hi lo) rs = map' := by
        simp only [map', hwritten]
        rfl
      rw [hmap] at hstores
      refine ⟨fun hidle => ?_, fun hnot => ?_⟩
      · rwa [mapEdit_idle (by exact hidle)] at hstores
      · rwa [mapEdit_ended (ended_of_settled (by exact hlive) (by exact hnot))] at hstores
  case validate =>
    have run {t : State} {a : Answer} (ha : answerMapValidate [] (heard header 0x22#8 [] s) = (t, a)) :
        exec (.mapValidate header []) s = .next (replied header a t) :=
      exec_station_answered (k := .mapValidate) hmay (Nat.zero_le _) (by decide) ha
    exact ⟨fun hlive => run (answerMapValidate_live hlive), fun hlive hbusy => run (answerMapValidate_busy hlive hbusy),
      fun hlive hmap hnv => run (answerMapValidate_begins hlive hmap hnv)⟩

end Sys2Proof.Machine
end

section
/-! The laws of the working map, of the generations and of the store (R36, R47, R53, R164, R167, R176), block by block:
what each operation of the Link Map Store and of the NV Store Controller does to them. -/

namespace Sys2Proof

/-- A property of the places of a table holds after a change if it holds of the changed place and of the others. -/
theorem Table.forall_change {t : Table α n} {i : Fin n} {f : α → α} {P : Fin n → α → Prop} (hi : P i (f (t.at i)))
    (hother : ∀ j, P j (t.at j)) (j : Fin n) : P j ((t.change i f).at j) := by
  rw [Table.at_change]
  split
  next h => exact h ▸ hi
  next => exact hother j

end Sys2Proof

namespace Sys2Proof.Machine

/-! ## The working map -/

section
variable {m : MapStore}

/-- A map that is not VALID, with the table all FREE, keeps its law by its count, its records and its error. -/
theorem workingMapLaw_of_free (hcount : m.inUse = countInUse m.links) (hstored : ∀ k, (m.links.at k).Stored)
    (hvalid : m.status ≠ .valid) (herror : m.status = .checking → m.error = .none) (hfree : m.occupancy = allFree) :
    WorkingMapLaw m :=
  ⟨hcount, hstored, fun h => herror (h.resolve_right hvalid), fun h => absurd h hvalid, fun _ => hfree⟩

theorem workingMapLaw_empty : WorkingMapLaw MapStore.empty := by
  have hunused (k : LinkIx) : MapStore.empty.links.at k = LinkRecord.unused := Table.at_fill ..
  refine workingMapLaw_of_free ?_ (fun k => .inr (hunused k)) nofun nofun rfl
  show 0 = (Vector.replicate 480 LinkRecord.unused).toList.countP (·.inUse)
  rw [Vector.toList_replicate, List.countP_replicate]
  rfl

theorem workingMapLaw_edited (start : Nat) {rs : List LinkRecord} (hrs : ∀ r ∈ rs, r.Stored) (h : WorkingMapLaw m) :
    WorkingMapLaw (m.edited start rs) :=
  workingMapLaw_of_free rfl (writeLinks_stored start hrs h.2.1) nofun nofun rfl

theorem workingMapLaw_checking (h : WorkingMapLaw m) : WorkingMapLaw m.checking :=
  workingMapLaw_of_free h.1 h.2.1 nofun (fun _ => rfl) rfl

theorem workingMapLaw_afterRestart (h : WorkingMapLaw m) : WorkingMapLaw m.afterRestart := by
  unfold MapStore.afterRestart
  split
  · exact workingMapLaw_of_free h.1 h.2.1 nofun nofun rfl
  · exact h

/-- The scan grants VALID to lawful records alone, with a true occupancy table (R50, R53). -/
theorem workingMapLaw_scanned (hchecking : m.status = .checking) (h : WorkingMapLaw m) : WorkingMapLaw m.scanned := by
  obtain ⟨hcount, hstored, herror, -, -⟩ := h
  by_cases hlaw : 1 ≤ m.inUse ∧ MapLaw m
  · rw [scanned_valid hlaw.1 hlaw.2]
    refine ⟨hcount, hstored, fun _ => herror (.inl hchecking),
      fun _ => ⟨⟨hcount ▸ hlaw.1, hlaw.2⟩, fun e k => ?_⟩, fun hne => absurd rfl hne⟩
    exact occupancyOf_iff hlaw.2 e k
  · obtain ⟨err, hscanned, -⟩ := scanned_faulty hlaw
    rw [hscanned]
    exact workingMapLaw_of_free hcount hstored nofun nofun rfl

theorem workingMapLaw_loaded (n : NvIx) {body : List Byte} (h : LawfulRecords (linksOfBody body)) :
    WorkingMapLaw (MapStore.loaded n (linksOfBody body)) := by
  refine ⟨rfl, linksOfBody_stored body, fun _ => rfl, fun _ => ⟨h, fun e k => ?_⟩, fun hne => absurd rfl hne⟩
  exact occupancyOf_iff h.2 e k

end

/-! ## The slots and the generations -/

/-- The begun mark of a slot stands with its done mark (R164). -/
def NvSlot.MarksLawful (x : NvSlot) : Prop := x.done = true → x.begun = true

/-- An intact DONE generation holds records that a validation would grant VALID (R167, R176). -/
def NvSlot.RecordsLawful (x : NvSlot) : Prop :=
  x.done = true → intact x.body = true → LawfulRecords (linksOfBody x.body)

/-- No mark of the slot is cleared. -/
def NvSlot.MarksKept (x y : NvSlot) : Prop := (x.begun = true → y.begun = true) ∧ (x.done = true → y.done = true)

theorem NvSlot.MarksKept.refl (x : NvSlot) : x.MarksKept x := ⟨id, id⟩

section
variable {slots : Table NvSlot 4} {n : NvIx} {f : NvSlot → NvSlot}

theorem marksLawful_change (hn : (f (slots.at n)).MarksLawful) (h : ∀ m, (slots.at m).MarksLawful) (m : NvIx) :
    ((slots.change n f).at m).MarksLawful :=
  Table.forall_change (P := fun _ => NvSlot.MarksLawful) hn h m

theorem recordsLawful_change (hn : (f (slots.at n)).RecordsLawful) (h : ∀ m, (slots.at m).RecordsLawful) (m : NvIx) :
    ((slots.change n f).at m).RecordsLawful :=
  Table.forall_change (P := fun _ => NvSlot.RecordsLawful) hn h m

theorem marksKept_change (hn : (slots.at n).MarksKept (f (slots.at n))) (m : NvIx) :
    (slots.at m).MarksKept ((slots.change n f).at m) :=
  Table.forall_change (P := fun m => (slots.at m).MarksKept) hn (fun _ => .refl _) m

/-- What a write takes is a FREE slot (R164). -/
theorem lowestFree_isFree (h : lowestFree slots = some n) : (slots.at n).begun = false ∧ (slots.at n).done = false :=
  (isFree_iff _).1 (List.find?_some (p := fun n => (slots.at n).isFree) h)

end

theorem workingMapLaw_loadMap {nv : NvStore} (h : GenerationLaw nv) : WorkingMapLaw (loadMap nv.gens) := by
  cases hchosen : (chooseGeneration nv.gens).1 with
  | none =>
    rw [loadMap_none hchosen]
    exact workingMapLaw_empty
  | some n =>
    obtain ⟨hdone, hintact⟩ := examine_whole hchosen
    rw [loadMap_some hchosen]
    exact workingMapLaw_loaded n (h.1 n ((isDone_iff _).1 hdone).2 hintact)

/-! ## What a step does to the map and to the store -/

/-- From `s` to `t` no mark is cleared, and the law of the store is kept (R164). -/
structure MarksSafe (s t : State) : Prop where
  store : StoreLaw s → StoreLaw t
  gens : ∀ n, (s.nv.gens.at n).MarksKept (t.nv.gens.at n)
  certs : ∀ n, (s.nv.certs.at n).MarksKept (t.nv.certs.at n)

/-- From `s` to `t` the laws of the working map and of the generations are kept as well. -/
structure StoreSafe (s t : State) : Prop extends MarksSafe s t where
  maps : WorkingMapLaw s.map ∧ GenerationLaw s.nv → WorkingMapLaw t.map ∧ GenerationLaw t.nv

theorem MarksSafe.trans {s t u : State} (h : MarksSafe s t) (h' : MarksSafe t u) : MarksSafe s u where
  store := h'.store ∘ h.store
  gens n := ⟨(h'.gens n).1 ∘ (h.gens n).1, (h'.gens n).2 ∘ (h.gens n).2⟩
  certs n := ⟨(h'.certs n).1 ∘ (h.certs n).1, (h'.certs n).2 ∘ (h.certs n).2⟩

theorem MarksSafe.marks {s t : State} (h : MarksSafe s t) (n : NvIx) :
    ((s.nv.gens.at n).begun = true → (t.nv.gens.at n).begun = true)
      ∧ ((s.nv.gens.at n).done = true → (t.nv.gens.at n).done = true)
      ∧ ((s.nv.certs.at n).begun = true → (t.nv.certs.at n).begun = true)
      ∧ ((s.nv.certs.at n).done = true → (t.nv.certs.at n).done = true) :=
  ⟨(h.gens n).1, (h.gens n).2, h.certs n⟩

namespace StoreSafe

section
variable {s t u : State}

theorem trans (h : StoreSafe s t) (h' : StoreSafe t u) : StoreSafe s u where
  toMarksSafe := h.toMarksSafe.trans h'.toMarksSafe
  maps := h'.maps ∘ h.maps

/-- An operation of the Link Map Store alone keeps the store's laws; it owes the map's. -/
theorem of_map (hnv : t.nv = s.nv) (hmap : WorkingMapLaw s.map → WorkingMapLaw t.map) : StoreSafe s t where
  store h := by
    unfold StoreLaw at h ⊢
    rwa [hnv]
  maps h := ⟨hmap h.1, hnv ▸ h.2⟩
  gens n := hnv ▸ .refl _
  certs n := hnv ▸ .refl _

/-- What touches neither the map nor the store is safe. -/
theorem of_kept (hmap : t.map = s.map) (hnv : t.nv = s.nv) : StoreSafe s t := of_map hnv fun h => hmap ▸ h

theorem refl (s : State) : StoreSafe s s := of_kept rfl rfl

theorem of_stationKept (h : StationKept s t) : StoreSafe s t := of_kept h.map h.nv

theorem of_cycleKept (h : CycleKept s t) : StoreSafe s t := of_kept h.map h.nv

end

/-! ## The store's own operations -/

section
variable (s : State)

/-- A burn takes a slot that is not DONE, for the records of a VALID map (R167, R168). -/
theorem beginBurn {n : NvIx} (hvalid : s.map.status = .valid) (hfree : lowestFree s.nv.gens = some n) :
    StoreSafe s (beginBurn n s) where
  store h := by
    obtain ⟨hgens, hcerts, -, -⟩ := h
    refine ⟨marksLawful_change (fun _ => rfl) hgens, hcerts, ?_, nofun⟩
    rintro w - hw
    obtain rfl := Option.some.inj hw
    exact congrArg NvSlot.begun (Table.at_change_self ..)
  maps h := by
    obtain ⟨hmap, hgens, -⟩ := h
    refine ⟨hmap, recordsLawful_change (hgens n) hgens, ?_⟩
    rintro w - hw
    obtain rfl := Option.some.inj hw
    refine ⟨(congrArg NvSlot.done (Table.at_change_self ..)).trans (lowestFree_isFree hfree).2, ?_⟩
    obtain ⟨-, hstored, -, hlawful, -⟩ := hmap
    exact (linksOfBody_generationBody n hstored).symm ▸ (hlawful hvalid).1
  gens := marksKept_change ⟨fun _ => rfl, id⟩
  certs _ := .refl _

/-- A certificate write takes a slot of its own (R171). -/
theorem beginCertificate (c : NvIx) (tag : List Byte) : StoreSafe s (beginCertificate c tag s) where
  store h := by
    obtain ⟨hgens, hcerts, -, -⟩ := h
    refine ⟨hgens, marksLawful_change (fun _ => rfl) hcerts, nofun, ?_⟩
    rintro w - hw
    obtain rfl := Option.some.inj hw
    exact congrArg NvSlot.begun (Table.at_change_self ..)
  maps h := ⟨h.1, h.2.1, nofun⟩
  gens _ := .refl _
  certs := marksKept_change ⟨fun _ => rfl, id⟩

theorem written_marksKept (x : NvSlot) (flaws : List (Nat × Byte)) (bytes : List Byte) :
    x.MarksKept (x.written flaws bytes) :=
  ⟨id, fun h => by simp [NvSlot.written, h]⟩

/-- A slot that was not DONE is so after a good verify alone, and then holds what was written (R169). -/
theorem written_recordsLawful {x : NvSlot} {bytes : List Byte} (flaws : List (Nat × Byte)) (hdone : x.done = false)
    (h : LawfulRecords (linksOfBody bytes)) : (x.written flaws bytes).RecordsLawful := by
  intro hgood _
  have hback : readBack flaws bytes = bytes := by
    simp only [NvSlot.written, hdone, verifies_eq, Bool.false_or, Bool.and_eq_true, decide_eq_true_eq] at hgood
    exact hgood.1
  simpa only [NvSlot.written, hback] using h

theorem completeBurn (flaws : List (Nat × Byte)) : StoreSafe s (completeBurn flaws s) := by
  unfold Machine.completeBurn
  split
  next w hburning hw =>
    refine ⟨⟨fun h => ?_, marksKept_change (written_marksKept _ _ _), fun _ => .refl _⟩, fun h => ?_⟩
    · obtain ⟨hgens, hcerts, hbegun, -⟩ := h
      exact ⟨marksLawful_change (fun _ => hbegun w hburning hw) hgens, hcerts, nofun, nofun⟩
    · obtain ⟨hmap, hgens, hwrite⟩ := h
      obtain ⟨hdone, hlawful⟩ := hwrite w hburning hw
      exact ⟨hmap, recordsLawful_change (written_recordsLawful flaws hdone hlawful) hgens, nofun⟩
  next => exact refl s

theorem completeCertificate (flaws : List (Nat × Byte)) : StoreSafe s (completeCertificate flaws s) := by
  unfold Machine.completeCertificate
  split
  next w hwriting hw =>
    refine ⟨⟨fun h => ?_, fun _ => .refl _, marksKept_change (written_marksKept _ _ _)⟩, fun h => ⟨h.1, h.2.1, nofun⟩⟩
    obtain ⟨hgens, hcerts, -, hbegun⟩ := h
    exact ⟨hgens, marksLawful_change (fun _ => hbegun w hwriting hw) hcerts, nofun, nofun⟩
  next => exact refl s

end

end StoreSafe

end Sys2Proof.Machine
end

section
/-! Every command and every idle step keeps the laws of the map, of the generations and of the store, and no mark is
cleared: the operations of the other blocks touch neither, and those of the two stores are safe. -/

namespace Sys2Proof.Machine

namespace StoreSafe

section
variable (s : State)

/-! ## The station's requests -/

theorem enrolStation (how : Admission) (identity : Nat) : StoreSafe s (enrolStation how identity s) := by
  have hadmit : StoreSafe s (admitStation identity s) := of_kept rfl rfl
  cases how with
  | fresh => exact hadmit.trans (of_stationKept (.transitionIntoActive _))
  | again => exact hadmit
  | takeover =>
    refine hadmit.trans ?_
    rw [Machine.enrolStation, stationChange_frame]
    exact of_kept rfl rfl

theorem stationLeaves : StoreSafe s (stationLeaves s) := by
  rw [Machine.stationLeaves, stationChange_frame]
  exact of_kept rfl rfl

theorem onMap {f : MapStore → MapStore} (hf : WorkingMapLaw s.map → WorkingMapLaw (f s.map)) :
    StoreSafe s (s.onMap f) :=
  of_map rfl hf

theorem mapWritten (start : Nat) {rs : List LinkRecord} (hrs : ∀ r ∈ rs, r.Stored) :
    StoreSafe s (mapEdit { s with map := s.map.edited start rs }) :=
  of_map (mapEdit_nv _) fun h => (mapEdit_map _).symm ▸ workingMapLaw_edited start hrs h

theorem ownerAnswers_station (k : RequestKind) (payload : List Byte) :
    StoreSafe s (ownerAnswers k .station payload s).1 := by
  cases k with
  | enrol =>
    rw [ownerAnswers]
    rcases answerEnrol_state payload s .station with e | ⟨_, _, hwho, _⟩ | ⟨how, identity, _, e⟩
    · rw [e]; exact refl s
    · cases hwho
    · rw [e]; exact enrolStation s how identity
  | leave =>
    rw [ownerAnswers]
    rcases answerLeave_state payload s .station with e | ⟨_, hwho, _⟩ | ⟨_, e⟩
    · rw [e]; exact refl s
    · cases hwho
    · rw [e]; exact stationLeaves s
  | status => rw [ownerAnswers, answerStatus_state]; exact refl s
  | ident => rw [ownerAnswers, answerIdent_state]; exact refl s
  | arm =>
    rcases answerArm_state payload s with e | ⟨a, e⟩ <;> rw [ownerAnswers, e]
    · exact refl s
    · exact of_kept rfl rfl
  | paramSet =>
    rcases answerParamSet_state payload s with e | ⟨_, _, _, _, _, e⟩ <;> rw [ownerAnswers, e]
    · exact refl s
    · exact of_kept rfl rfl
  | paramGet => rw [ownerAnswers, answerParamGet_state]; exact refl s
  | mapWrite =>
    rcases answerMapWrite_cases payload s with e | ⟨start, rs, hrs, e⟩ <;> rw [ownerAnswers, e]
    · exact refl s
    · exact mapWritten s start hrs
  | mapRead => rw [ownerAnswers, answerMapRead_state]; exact refl s
  | mapValidate =>
    rcases answerMapValidate_state payload s with e | ⟨_, _, e⟩ <;> rw [ownerAnswers, e]
    · exact refl s
    · exact onMap s workingMapLaw_checking
  | mapBurn =>
    rcases answerMapBurn_state payload s with e | ⟨n, hvalid, _, _, hfree, e⟩ <;> rw [ownerAnswers, e]
    · exact refl s
    · exact beginBurn s hvalid hfree
  | campaignStart =>
    rcases answerStart_state payload s with e | ⟨_, _, e⟩ <;> rw [ownerAnswers, e]
    · exact refl s
    · exact of_kept rfl rfl
  | campaignPause =>
    rcases answerPause_state payload s with e | ⟨_, e⟩ | ⟨_, e⟩ <;> rw [ownerAnswers, e]
    · exact refl s
    · exact of_kept rfl rfl
    · exact of_kept rfl rfl
  | campaignResume =>
    rcases answerResume_state payload s with e | ⟨_, e⟩ <;> rw [ownerAnswers, e]
    · exact refl s
    · exact of_kept rfl rfl
  | campaignAbort =>
    rcases answerAbort_state payload s with e | ⟨_, e⟩ <;> rw [ownerAnswers, e]
    · exact refl s
    · exact of_kept rfl rfl
  | fetch => exact refl s
  | report => exact refl s
  | resultRead => rw [ownerAnswers, answerResultRead_state]; exact refl s
  | findingRead => rw [ownerAnswers, answerFindingRead_state]; exact refl s
  | certCommit =>
    rcases answerCertCommit_state payload s with e | ⟨c, _, _, _, e⟩ <;> rw [ownerAnswers, e]
    · exact refl s
    · exact beginCertificate s c payload
  | certRead => rw [ownerAnswers, answerCertRead_state]; exact refl s
  | restart =>
    rcases answerRestart_state payload s with e | ⟨_, e⟩ <;> rw [ownerAnswers, e]
    · exact refl s
    · exact of_kept rfl rfl

/-! ## Taking a request -/

theorem onPort (f : Port → Port) : StoreSafe s (s.onPort f) := of_kept rfl rfl

theorem replied (header : Byte) (a : Answer) : StoreSafe s (replied header a s) := of_kept rfl rfl

theorem takeRequest (header kind : Byte) (payload : List Byte) : StoreSafe s (takeRequest header kind payload s) := by
  have hheard : StoreSafe s (presentToArm s) := of_kept rfl rfl
  rw [Machine.takeRequest, ← Prod.mk.eta (p := decideRequest _ _ _ _ _), reply_eq_replied]
  refine (hheard.trans ?_).trans (replied ..)
  rcases decideRequest_state header kind (marksArmed s.port.arm header kind) payload (presentToArm s) with
    e | ⟨k, who, _, _, haccepted, e⟩ <;> rw [e]
  · exact refl _
  · cases who with
    | probe n => exact of_stationKept (.ownerAnswers (permits_of_accepted haccepted) payload _)
    | station => exact ownerAnswers_station _ k payload

theorem deliver (header kind : Byte) (payload : List Byte) : StoreSafe s (deliver header kind payload s) := by
  unfold Machine.deliver
  split
  · exact (onPort ..).trans (takeRequest ..)
  · exact of_kept rfl rfl

/-! ## The line and the reply -/

theorem endOfData : StoreSafe s (endOfData s) := by
  unfold Machine.endOfData testFrame
  split_ifs
  · exact takeRequest ..
  · exact onPort ..
  · exact onPort ..
  · exact refl s

theorem restartReset (dominant : Bool) : StoreSafe s (restartReset dominant s) :=
  of_map rfl workingMapLaw_afterRestart

theorem afterReply (dominant : Bool) : StoreSafe s (afterReply dominant s) := by
  unfold Machine.afterReply
  split
  · exact restartReset s dominant
  · exact refl s

theorem replyCollides : StoreSafe s (replyCollides s) := (onPort ..).trans (afterReply ..)

theorem replyStarts (dominant : Bool) : StoreSafe s (replyStarts dominant s) := by
  unfold Machine.replyStarts
  split_ifs
  · exact replyCollides s
  · exact onPort ..
  · exact refl s

theorem replyCutOff : StoreSafe s (replyCutOff s) := by
  unfold Machine.replyCutOff
  split
  · exact replyCollides s
  · exact refl s

theorem replyCompletes (dominant : Bool) : StoreSafe s (replyCompletes dominant s) := by
  unfold Machine.replyCompletes
  split
  · exact (onPort ..).trans (afterReply ..)
  · exact refl s

theorem levelReaches300 : StoreSafe s (levelReaches300 s) := by
  unfold Machine.levelReaches300
  split
  case h_4 => exact refl s
  case h_5 => exact onPort ..
  all_goals exact (replyCutOff s).trans (onPort ..)

theorem lineFault : StoreSafe s (lineFault s) := by
  rw [lineFault_frame]
  exact of_kept rfl rfl

theorem present (p : Presentation) : StoreSafe s (present p s) := by
  rw [present_frame]
  exact of_kept rfl rfl

theorem levelReaches20ms : StoreSafe s (levelReaches20ms s) := by
  unfold Machine.levelReaches20ms stuckBegins
  split
  · exact onPort ..
  · exact (((levelReaches300 s).trans (onPort ..)).trans (lineFault _)).trans (present ..)

/-! ## The ends of work and the timers -/

theorem completeScan : StoreSafe s (completeScan s) := by
  unfold Machine.completeScan
  split
  next h => exact onMap s (workingMapLaw_scanned h)
  next => exact refl s

theorem enterVoid (cause : VoidCause) : StoreSafe s (enterVoid cause s) :=
  of_cycleKept (enterVoid_legsKept cause s).toCycleKept

theorem presenceSeats (n : Slot) : StoreSafe s (presenceSeats n s) := by
  unfold Machine.presenceSeats
  split <;> exact of_kept rfl rfl

theorem presenceLost (n : Slot) : StoreSafe s (presenceLost n s) := by
  unfold Machine.presenceLost
  split <;> exact of_kept rfl rfl

theorem planEnds : StoreSafe s (planEnds s) := by
  have hmade : StoreSafe s (makePlan s) := of_kept rfl rfl
  unfold Machine.planEnds
  split
  · refine hmade.trans ?_
    rcases decidePlan_cases (makePlan s) with ⟨_, e⟩ | ⟨_, _, e⟩ | ⟨_, _, _, e⟩ | ⟨_, _, _, e⟩ <;> rw [e]
    · exact enterVoid ..
    · rcases emptyPlan_cases (makePlan s) with ⟨_, e⟩ | ⟨_, _, e⟩ | ⟨_, _, e⟩ <;> rw [e] <;> exact of_kept rfl rfl
    · exact of_kept rfl rfl
    · exact of_kept rfl rfl
  · exact refl s

theorem waitExpires : StoreSafe s (waitExpires s) := by
  unfold Machine.waitExpires
  split <;> exact of_kept rfl rfl

theorem announceEnds : StoreSafe s (announceEnds s) := by
  unfold Machine.announceEnds
  split
  · exact of_cycleKept ((withdraw_cycleKept s).trans (afterWithdrawal_legsKept _).toCycleKept)
  · exact refl s

theorem phase1Ends : StoreSafe s (phase1Ends s) := by
  unfold Machine.phase1Ends
  split_ifs <;> exact of_kept rfl rfl

theorem gapEnds : StoreSafe s (gapEnds s) := by
  unfold Machine.gapEnds
  split <;> exact of_kept rfl rfl

theorem phase2Ends : StoreSafe s (phase2Ends s) := by
  unfold Machine.phase2Ends
  split <;> exact of_kept rfl rfl

theorem deadlineRunsOut : StoreSafe s (deadlineRunsOut s) := by
  unfold Machine.deadlineRunsOut
  split <;> exact of_kept rfl rfl

theorem graceEnds : StoreSafe s (graceEnds s) := by
  unfold Machine.graceEnds
  split
  · exact of_cycleKept ((settleGrace_cycleKept s).trans (closeEpoch_closed true _).toCycleKept)
  · exact refl s

theorem voidSettles : StoreSafe s (voidSettles s) := by
  unfold Machine.voidSettles
  split
  · have hsettled : StoreSafe s (settleVoid s) := of_kept rfl rfl
    refine hsettled.trans ?_
    rcases decideAfterSettle_cases (settleVoid s) with ⟨_, e⟩ | ⟨_, _, e⟩ <;> rw [e]
    · exact of_stationKept (.enterPaused _)
    · exact of_stationKept (.startPlanBuild _)
  · exact refl s

/-! ## Supervision and the lamp -/

theorem onRail (f : Rail → Rail) : StoreSafe s (s.onRail f) := of_kept rfl rfl

theorem sagFilterExpires : StoreSafe s (sagFilterExpires s) := by
  have hsignal (u : State) : StoreSafe u (signalSag u) := by
    unfold signalSag
    split
    case h_1 | h_2 | h_3 => exact enterVoid u .rail
    all_goals exact refl u
  unfold Machine.sagFilterExpires railChanges
  split
  · split
    · exact (onRail ..).trans (hsignal _)
    · exact onRail ..
  · exact refl s

theorem clockLost : StoreSafe s (clockLost s) := by
  unfold Machine.clockLost loseClock
  split
  · split <;> exact of_kept rfl rfl
  · exact refl s

theorem returnTimerExpires : StoreSafe s (returnTimerExpires s) := by
  unfold Machine.returnTimerExpires
  split_ifs <;> exact of_kept rfl rfl

theorem blinkLamp : StoreSafe s (blinkLamp s) := by
  unfold Machine.blinkLamp
  split <;> exact of_kept rfl rfl

/-! ## The resets -/

/-- A write in flight stops: its slot keeps its marks (R174). -/
theorem beginHold (kind : ResetKind) : StoreSafe s (beginHold kind s) where
  store h := ⟨h.1, h.2.1, nofun, nofun⟩
  maps h := ⟨h.1, h.2.1, nofun⟩
  gens _ := .refl _
  certs _ := .refl _

theorem nresetFalls : StoreSafe s (nresetFalls s) := by
  unfold Machine.nresetFalls
  split
  · exact refl s
  · exact beginHold s .pin

/-- The map loaded is lawful since the generation it is read from is (R175, R176). -/
theorem finishReset (kind : ResetKind) (dominant : Bool) : StoreSafe s (finishReset kind dominant s) where
  store h := ⟨h.1, h.2.1, nofun, nofun⟩
  maps h := ⟨workingMapLaw_loadMap h.2, h.2.1, nofun⟩
  gens _ := .refl _
  certs _ := .refl _

end

end StoreSafe

/-! ## The commands -/

section
variable {s t : State}

/-- Decayed bytes change no mark and no write in flight (R164, log entry 12). -/
theorem decay_keeps (decay : List NvDecay) (nv : NvStore) :
    (∀ n : NvIx, ((decay.foldl NvStore.decayed nv).gens.at n).begun = (nv.gens.at n).begun
        ∧ ((decay.foldl NvStore.decayed nv).gens.at n).done = (nv.gens.at n).done
        ∧ ((decay.foldl NvStore.decayed nv).certs.at n).begun = (nv.certs.at n).begun
        ∧ ((decay.foldl NvStore.decayed nv).certs.at n).done = (nv.certs.at n).done)
      ∧ (decay.foldl NvStore.decayed nv).state = nv.state
      ∧ (decay.foldl NvStore.decayed nv).write = nv.write := by
  induction decay generalizing nv with
  | nil => exact ⟨fun _ => ⟨rfl, rfl, rfl, rfl⟩, rfl, rfl⟩
  | cons d decay ih =>
    have hstate' : (nv.decayed d).state = nv.state := by rw [decayed_frame]
    have hwrite' : (nv.decayed d).write = nv.write := by rw [decayed_frame]
    obtain ⟨hmarks, hstate, hwrite⟩ := ih (nv.decayed d)
    refine ⟨fun n => ?_, hstate.trans hstate', hwrite.trans hwrite'⟩
    obtain ⟨hgb, hgd, hcb, hcd⟩ := hmarks n
    obtain ⟨hgb', hgd', hcb', hcd'⟩ := decayed_marks nv d n
    exact ⟨hgb.trans hgb', hgd.trans hgd', hcb.trans hcb', hcd.trans hcd'⟩

theorem decayStore_marksSafe (decay : List NvDecay) (s : State) : MarksSafe s (decayStore decay s) := by
  obtain ⟨hmarks, hstate, hwrite⟩ := decay_keeps decay s.nv
  refine ⟨fun h => ?_, fun n => ?_, fun n => ?_⟩
  · simpa [StoreLaw, decayStore, hmarks, hstate, hwrite] using h
  · simp [NvSlot.MarksKept, decayStore, hmarks]
  · simp [NvSlot.MarksKept, decayStore, hmarks]

/-- From the store that a power-up finds on, the reset is safe (R76, R175). -/
theorem powerResets_safe (dominant low : Bool) (decay : List NvDecay) (s : State) :
    StoreSafe (decayStore decay s) (powerResets dominant low decay s) := by
  unfold powerResets
  split
  · exact .beginHold ..
  · exact .finishReset ..

/-- A row that acts outside a reset alone is safe if its operation is. -/
theorem next_safe {f : State → State} (hf : StoreSafe s (f s))
    (hx : (.next (unlessHeld f s) : Host.Outcome State Fault Refusal) = .next t) : StoreSafe s t := by
  cases hx
  exact unlessHeld_keeps (P := StoreSafe s) (fun _ => hf) (.refl s)

theorem exec_safe (c : Instr) (hc : ∀ dominant low decay, c ≠ .powerReset dominant low decay)
    (hx : exec c s = .next t) : StoreSafe s t := by
  cases c
  case startMark | noiseEvent | breakEnd | stuckClear | stuckWaitRestart | bitPulse | endOfFrame
      | dominantEdgeAfterReply => exact next_safe (.onPort ..) hx
  case endOfData => exact next_safe (.endOfData s) hx
  case lineBreak => exact next_safe (.levelReaches300 s) hx
  case stuck => exact next_safe (.levelReaches20ms s) hx
  case replyStart => exact next_safe (.replyStarts s _) hx
  case replyCollision => exact next_safe (.replyCutOff s) hx
  case replyComplete => exact next_safe (.replyCompletes s _) hx
  case scanComplete => exact next_safe (.completeScan s) hx
  case burnComplete => exact next_safe (.completeBurn s _) hx
  case certWriteComplete => exact next_safe (.completeCertificate s _) hx
  case presenceSeated => exact next_safe (.presenceSeats s _) hx
  case presenceLoss => exact next_safe (.presenceLost s _) hx
  case planEnd => exact next_safe (.planEnds s) hx
  case waitExpiry => exact next_safe (.waitExpires s) hx
  case announceEnd => exact next_safe (.announceEnds s) hx
  case phase1End => exact next_safe (.phase1Ends s) hx
  case gapEnd => exact next_safe (.gapEnds s) hx
  case phase2End => exact next_safe (.phase2Ends s) hx
  case reportDeadline => exact next_safe (.deadlineRunsOut s) hx
  case graceEnd => exact next_safe (.graceEnds s) hx
  case voidSettleEnd => exact next_safe (.voidSettles s) hx
  case sagFilterExpiry => exact next_safe (.sagFilterExpires s) hx
  case refclkEdge => exact next_safe (f := refclkEdge) (.of_kept rfl rfl) hx
  case clockLoss => exact next_safe (.clockLost s) hx
  case returnTimerExpiry => exact next_safe (.returnTimerExpires s) hx
  case lampBlink => exact next_safe (.blinkLamp s) hx
  case presenceDeparture | rsenseDeparture =>
    cases hx
    split <;> exact .of_kept rfl rfl
  case nresetAsserted =>
    cases hx
    exact .nresetFalls s
  case pinReset =>
    cases hx
    exact .finishReset ..
  case powerReset dominant low decay => exact absurd rfl (hc dominant low decay)
  all_goals exact next_safe (.deliver s _ _ _) hx

end

/-- Settles O54: the command a step takes, but for a power-up, and an idle microsecond are safe; a power-up is safe for
the store it finds. -/
theorem marksAreNeverCleared : Obligations.MarksAreNeverCleared := by
  intro s t hstep
  cases hp : s.pending with
  | nil =>
    rw [step_nil s hp] at hstep
    have h : StoreSafe s t := next_safe (f := tick) (.of_kept rfl rfl) hstep
    exact ⟨h.store, fun hmap hgen _ => h.maps ⟨hmap, hgen⟩, h.marks⟩
  | cons c rest =>
    rw [step_cons c rest s hp] at hstep
    by_cases hpower : ∃ dominant low decay, c = .powerReset dominant low decay
    case neg =>
      have hc : ∀ dominant low decay, c ≠ .powerReset dominant low decay :=
        fun dominant low decay h => hpower ⟨dominant, low, decay, h⟩
      have hqueue : StoreSafe s { s with pending := rest } := .of_kept rfl rfl
      have h : StoreSafe s t := hqueue.trans (exec_safe c hc hstep)
      exact ⟨h.store, fun hmap hgen _ => h.maps ⟨hmap, hgen⟩, h.marks⟩
    case pos =>
      obtain ⟨dominant, low, decay, rfl⟩ := hpower
      cases hstep
      have hreset := powerResets_safe dominant low decay { s with pending := rest }
      have h := (decayStore_marksSafe decay { s with pending := rest }).trans hreset.toMarksSafe
      exact ⟨h.store, fun hmap _ hfound => hreset.maps ⟨hmap, hfound dominant low decay rest rfl⟩, h.marks⟩

end Sys2Proof.Machine
end

section
/-! The Findings List (R155 to R157), the reads of the ACTIVE station (R46, R153, R159, R173), and CAMPAIGN_PAUSE with
the lamp blink (R48, R58, R62, R71). -/

namespace Sys2Proof.Machine

/-! ## A presentation -/

section
variable {p : Presentation}

theorem Finding.exceeded_iff (f : Finding) :
    f.exceeded p = true ↔ ∃ old new, f.peak = some old ∧ p.margin = some new ∧ old < new := by
  unfold Finding.exceeded
  split
  next old new hold hnew => simp [hold, hnew]
  next hnone =>
    refine ⟨nofun, ?_⟩
    rintro ⟨old, new, hold, hnew, -⟩
    exact (hnone old new hold hnew).elim

theorem Finding.hit_higher {f : Finding} (h : f.exceeded p = true) :
    f.hit p = { f with
      hits := satInc 255 f.hits, peak := p.margin
      signalLane := if f.kind = .crossed then p.signalLane else f.signalLane } := by
  simp [Finding.hit, h]

theorem Finding.hit_plain {f : Finding} (h : f.exceeded p = false) :
    f.hit p = { f with hits := satInc 255 f.hits } := by
  simp [Finding.hit, h]

/-- The first record that holds the key takes the hit (R157). -/
theorem recordHit_first {before after : List Finding} {f : Finding} (hf : f.hasKey p = true)
    (hbefore : ∀ g ∈ before, g.hasKey p = false) :
    recordHit p (before ++ f :: after) = some (before ++ f.hit p :: after) := by
  induction before with
  | nil => simp [recordHit, hf]
  | cons g before ih =>
    obtain ⟨hg, hrest⟩ := List.forall_mem_cons.1 hbefore
    simp [recordHit, hg, ih hrest]

section
variable {fl : Findings} (m : MapStore)

theorem Findings.after_hit {before after : List Finding} {f : Finding} (hl : fl.list = before ++ f :: after)
    (hf : f.hasKey p = true) (hbefore : ∀ g ∈ before, g.hasKey p = false) :
    fl.after m p = ⟨before ++ f.hit p :: after, fl.overflow⟩ := by
  rw [Findings.after, hl, recordHit_first hf hbefore]

theorem Findings.after_new (hnew : ∀ g ∈ fl.list, g.hasKey p = false) (hlen : fl.list.length < 64) :
    fl.after m p = ⟨fl.list ++ [newFinding m p], fl.overflow⟩ := by
  rw [Findings.after, recordHit_none.2 hnew]
  exact if_pos hlen

theorem Findings.after_full (hnew : ∀ g ∈ fl.list, g.hasKey p = false) (hlen : 64 ≤ fl.list.length) :
    fl.after m p = ⟨fl.list, satInc 65535 fl.overflow⟩ := by
  rw [Findings.after, recordHit_none.2 hnew]
  exact if_neg (by omega)

end

end

/-- Settles O42: discarded outside a live campaign; in one, by whether a record holds the key and the list is full. -/
theorem findingPresented : Obligations.FindingPresented := by
  intro p s t has
  have hhas (f : Finding) : f.hasKey p = true ↔ has f := by simp [Finding.hasKey, has]
  have hnot {fs : List Finding} (h : ∀ g ∈ fs, ¬has g) : ∀ g ∈ fs, g.hasKey p = false :=
    fun g hg => Bool.eq_false_iff.2 (mt (hhas g).1 (h g hg))
  refine ⟨present_idle p, fun hlive => ⟨present_frame p s, ?hit, ?new, ?full⟩⟩
  all_goals rw [show t.findings = _ from present_live p hlive]
  case hit =>
    intro before f after hlist hf hbefore higher
    rw [Findings.after_hit _ hlist ((hhas f).2 hf) (hnot hbefore)]
    refine ⟨fun h => ?_, fun h => ?_⟩
    · rw [Finding.hit_higher ((Finding.exceeded_iff f).2 h)]
    · rw [Finding.hit_plain (Bool.eq_false_iff.2 (mt (Finding.exceeded_iff f).1 h))]
  case new => exact fun hnew hlen => Findings.after_new _ (hnot hnew) hlen
  case full => exact fun hnew hlen => Findings.after_full _ (hnot hnew) hlen

/-! ## The reads -/

section
variable {s : State} {payload : List Byte} {a b c : Byte}

theorem answerMapRead_malformed (h : payload.length ≠ 3) : answerMapRead payload s = (s, .refusal .malformed) := by
  unfold answerMapRead
  split
  · simp at h
  · rfl

theorem answerMapRead_sends (hlow : 1 ≤ c.toNat) (hhigh : c.toNat ≤ 5) (hfits : num16 a b + c.toNat ≤ 480) :
    answerMapRead [a, b, c] s = (s, ⟨.ok, a :: b :: readLinks s.map (num16 a b) c.toNat⟩) :=
  if_neg (by omega)

theorem answerMapRead_range (h : c.toNat < 1 ∨ 5 < c.toNat ∨ 480 < num16 a b + c.toNat) :
    answerMapRead [a, b, c] s = (s, .refusal .range) := if_pos h

theorem answerResultRead_malformed (h : payload.length ≠ 2) :
    answerResultRead payload s = (s, .refusal .malformed) := by
  unfold answerResultRead
  split
  · simp at h
  · rfl

theorem answerResultRead_sends {l : LegIx} (hl : l.val = num16 a b) (hleg : s.map.isLeg l = true) :
    answerResultRead [a, b] s = (s, ⟨.ok, resultBytes l (s.results.records.at l)⟩) := by
  obtain ⟨n, hn⟩ := l
  obtain rfl : n = num16 a b := hl
  simp [answerResultRead, hn, hleg]

theorem answerResultRead_range (h : ∀ l : LegIx, l.val = num16 a b → s.map.isLeg l = false) :
    answerResultRead [a, b] s = (s, .refusal .range) := by
  by_cases hn : num16 a b < 960
  · simp [answerResultRead, hn, h ⟨_, hn⟩ rfl]
  · simp [answerResultRead, hn]

theorem answerFindingRead_malformed (h : payload.length ≠ 1) :
    answerFindingRead payload s = (s, .refusal .malformed) := by
  unfold answerFindingRead
  split
  · simp at h
  · rfl

theorem answerFindingRead_sends {f : Finding} (h : s.findings.list[a.toNat]? = some f) :
    answerFindingRead [a] s = (s, ⟨.ok, findingBytes a.toNat s.findings.list.length f⟩) := by
  simp only [answerFindingRead, h]

theorem answerFindingRead_range (h : s.findings.list.length ≤ a.toNat) :
    answerFindingRead [a] s = (s, .refusal .range) := by
  simp only [answerFindingRead, List.getElem?_eq_none h]

theorem answerCertRead_malformed (h : payload.length ≠ 2) : answerCertRead payload s = (s, .refusal .malformed) := by
  unfold answerCertRead
  split
  · simp at h
  · rfl

theorem answerCertRead_sends {n : NvIx} (hn : n.val = a.toNat) (hpage : b.toNat ≤ 1)
    (hdone : (s.nv.certs.at n).isDone = true) :
    answerCertRead [a, b] s = (s, ⟨.ok, certificatePage (s.nv.certs.at n).body b.toNat⟩) := by
  obtain ⟨k, hk⟩ := n
  obtain rfl : k = a.toNat := hn
  simp [answerCertRead, hk, Nat.not_lt.2 hpage, hdone]

theorem answerCertRead_notDone {n : NvIx} (hn : n.val = a.toNat) (hpage : b.toNat ≤ 1)
    (hdone : (s.nv.certs.at n).isDone = false) : answerCertRead [a, b] s = (s, .refusal .state) := by
  obtain ⟨k, hk⟩ := n
  obtain rfl : k = a.toNat := hn
  simp [answerCertRead, hk, Nat.not_lt.2 hpage, hdone]

theorem answerCertRead_range (h : 3 < a.toNat ∨ 1 < b.toNat) : answerCertRead [a, b] s = (s, .refusal .range) := by
  by_cases ha : a.toNat < 4
  · simp [answerCertRead, ha, h.resolve_left (by omega)]
  · simp [answerCertRead, ha]

end

/-- Settles O45: read by read, at its length by the tests in order, and MALFORMED at any other. -/
theorem stationReads : Obligations.StationReads := by
  intro header a b c s hmay first
  have run (k : RequestKind) {payload : List Byte} {t : State} {answer : Answer} (hp : payload.length ≤ 30)
      (hk : k ∉ [RequestKind.fetch, .report, .mapBurn, .certCommit, .restart])
      (ha : ownerAnswers k .station payload (heard header k.byte payload s) = (t, answer)) :
      exec (requestRow k header payload) s = .next (replied header answer t) :=
    exec_station_answered hmay hp hk ha
  refine ⟨?malformed, fun hlow hhigh hfits => ?mapSent, fun hrange => ?mapRange, fun l hl hleg => ?resultSent,
    fun hnoLeg => ?resultRange, fun f hf => ?findingSent, fun hlen => ?findingRange,
    fun n hn hpage => ⟨fun hbegun hdone => ?certSent, fun hdone => ?certState⟩, fun hrange => ?certRange⟩
  case malformed =>
    intro k n hkn payload hp hlen
    simp only [List.mem_cons, Prod.mk.injEq, List.not_mem_nil, or_false] at hkn
    obtain ⟨rfl, rfl⟩ | ⟨rfl, rfl⟩ | ⟨rfl, rfl⟩ | ⟨rfl, rfl⟩ := hkn
    · exact run .mapRead hp (by decide) (answerMapRead_malformed hlen)
    · exact run .resultRead hp (by decide) (answerResultRead_malformed hlen)
    · exact run .findingRead hp (by decide) (answerFindingRead_malformed hlen)
    · exact run .certRead hp (by decide) (answerCertRead_malformed hlen)
  case mapSent => exact run .mapRead (by simp) (by decide) (answerMapRead_sends hlow hhigh hfits)
  case mapRange => exact run .mapRead (by simp) (by decide) (answerMapRead_range hrange)
  case resultSent => exact run .resultRead (by simp) (by decide) (answerResultRead_sends hl hleg)
  case resultRange => exact run .resultRead (by simp) (by decide) (answerResultRead_range hnoLeg)
  case findingSent => exact run .findingRead (by simp) (by decide) (answerFindingRead_sends hf)
  case findingRange => exact run .findingRead (by simp) (by decide) (answerFindingRead_range hlen)
  case certSent =>
    exact run .certRead (by simp) (by decide) (answerCertRead_sends hn hpage ((isDone_iff _).2 ⟨hbegun, hdone⟩))
  case certState =>
    exact run .certRead (by simp) (by decide) (answerCertRead_notDone hn hpage (by simp [NvSlot.isDone, hdone]))
  case certRange => exact run .certRead (by simp) (by decide) (answerCertRead_range hrange)

/-! ## The campaign's requests without a payload -/

section
variable {s : State} {payload : List Byte}

theorem answerStart_live (h : s.campaign.state.live = true) :
    answerStart [] s = (s, ⟨.state, [StartCauses.runningOnly.byte]⟩) := by
  simp [answerStart, h]

theorem answerPause_running (h : s.campaign.state = .running) :
    answerPause [] s = (s.onCampaign fun c => { c with pausePending := true }, ⟨.ok, []⟩) := by
  simp [answerPause, h]

theorem answerPause_waiting (h : s.campaign.state = .waiting) : answerPause [] s = (enterPaused s, ⟨.ok, []⟩) := by
  simp [answerPause, h]

theorem answerPause_paused (h : s.campaign.state = .paused) : answerPause [] s = (s, ⟨.ok, []⟩) := by
  simp [answerPause, h]

theorem answerPause_ended (h : s.campaign.state.live = false) : answerPause [] s = (s, .refusal .state) := by
  cases hc : s.campaign.state <;> simp_all [answerPause, CampaignState.live]

/-- A payload on one of the five requests that carry none is MALFORMED (R48, R58, R62 to R64). -/
theorem ownerAnswers_payload {k : RequestKind}
    (hk : k ∈ [RequestKind.campaignPause, .campaignResume, .campaignAbort, .campaignStart, .mapValidate])
    (h : payload ≠ []) : ownerAnswers k .station payload s = (s, .refusal .malformed) := by
  simp only [List.mem_cons, List.not_mem_nil, or_false] at hk
  rcases hk with rfl | rfl | rfl | rfl | rfl <;> exact if_pos h

end

/-- Settles O26: the malformed payloads, CAMPAIGN_PAUSE by campaign state, and the lamp blink. -/
theorem pauseAndBlink : Obligations.PauseAndBlink := by
  refine ⟨fun header s hmay => ?_, fun s hheld hpaused => ?blink⟩
  case blink =>
    have hrow : exec .lampBlink s = .next (blinkLamp s) := congrArg _ (unlessHeld_of_none hheld)
    rw [hrow, blinkLamp, if_pos hpaused]
    rfl
  have pause {t : State} {a : Answer} (ha : answerPause [] (heard header 0x31#8 [] s) = (t, a)) :
      exec (.campaignPause header []) s = .next (replied header a t) :=
    exec_station_answered (k := .campaignPause) hmay (Nat.zero_le _) (by decide) ha
  refine ⟨fun k hk payload hp hne => ?malformed, fun hlive => ?start, fun hrun => pause (answerPause_running hrun),
    fun hwait => ?waiting, fun hpaused => pause (answerPause_paused hpaused), fun hended => ?ended⟩
  case malformed =>
    have hfree : k ∉ [RequestKind.fetch, .report, .mapBurn, .certCommit, .restart] := by
      revert hk
      cases k <;> decide
    exact exec_station_answered hmay hp hfree (ownerAnswers_payload hk hne)
  case start =>
    exact exec_station_answered (k := .campaignStart) hmay (Nat.zero_le _) (by decide) (answerStart_live hlive)
  case waiting =>
    have hnodes : (replied header ⟨.ok, []⟩ (enterPaused (heard header 0x31#8 [] s))).nodes
        = { s.nodes with silence := 0 } := if_pos ⟨hmay.2.1, by decide⟩
    refine ⟨_, pause (answerPause_waiting hwait), rfl, rfl, rfl, rfl, ?_⟩
    rw [← hnodes]
    rfl
  case ended =>
    refine pause (answerPause_ended ?_)
    rcases hended with h | h | h <;> simp [h, CampaignState.live]

end Sys2Proof.Machine
end

section
/-! The state after reset meets every law (R56, R78, R97; log entries 11 and 19). -/

namespace Sys2Proof

/-- A table that holds one thing everywhere holds nothing that the thing is not. -/
theorem Table.countP_fill {p : α → Bool} {a : α} (n : Nat) (h : p a = false) :
    (Table.fill n a).toList.countP p = 0 := by
  rw [Table.fill, Vector.toList_replicate, List.countP_replicate, if_neg (by simp [h])]

end Sys2Proof

namespace Sys2Proof.Machine

/-! ## What stands in the tables after reset -/

theorem reset_gens (n : NvIx) : State.reset.nv.gens.at n = NvSlot.free := Table.at_fill ..

theorem reset_certs (n : NvIx) : State.reset.nv.certs.at n = NvSlot.free := Table.at_fill ..

theorem reset_received (n : Slot) : State.reset.epoch.received.at n = [] := Table.at_fill ..

theorem reset_records (l : LegIx) : State.reset.results.records.at l = LegResult.resetForm := Table.at_fill ..

theorem reset_countP {p : LegResult → Bool} (h : p LegResult.resetForm = false) :
    State.reset.results.records.toList.countP p = 0 := Table.countP_fill 960 h

theorem reset_counts (i : Fin 9) : State.reset.results.counts.at i = 0 := Table.at_fill ..

/-! ## The laws -/

theorem runningLaw_reset : RunningLaw State.reset := ⟨nofun, fun h => absurd rfl h⟩

theorem strobeLaw_reset : StrobeLaw State.reset := ⟨nofun, fun _ _ => ⟨rfl, rfl⟩⟩

theorem bounded_reset : Bounded State.reset where
  port := Port.afterReset_counted false
  nodes := NodeTable.afterReset_counted _
  number := Nat.zero_le _
  findings := Findings.cleared_counted
  rail := ⟨Nat.zero_le _, Nat.zero_le _, Nat.zero_le _⟩
  losses := Nat.zero_le _

theorem storeLaw_reset : StoreLaw State.reset := by
  refine ⟨fun n hdone => ?_, fun n hdone => ?_, nofun, nofun⟩
  · rw [reset_gens] at hdone
    cases hdone
  · rw [reset_certs] at hdone
    cases hdone

theorem referenceLaw_reset : ReferenceLaw State.reset := by
  have hstart (n : Slot) : (Table.fill 20 (Params.defaults.p 11 * 256)).at n ≤ referenceMax := by
    rw [Table.at_fill]
    decide
  have hranges : ∀ i : Fin 16,
      (generalRange.at i).1 ≤ State.reset.p i ∧ State.reset.p i ≤ (generalRange.at i).2 := by decide
  refine ⟨hstart, hstart, hranges, fun n q hq => ?_⟩
  rw [reset_received] at hq
  cases hq

theorem trialLaw_reset : TrialLaw State.reset :=
  ⟨Nat.zero_le _, fun _ => Nat.zero_le _, fun _ _ _ => Nat.zero_le _, nofun, .nil⟩

theorem attemptLaw_reset : AttemptLaw State.reset := by
  refine ⟨by decide, by decide, nofun, fun l => ?_⟩
  rw [reset_records]
  exact Nat.zero_le _

theorem countLaw_reset : CountLaw State.reset := by
  have hsum : settledCount State.reset = 0 := rfl
  refine ⟨fun v i _ => ?_, ?_, ?_⟩
  · rw [reset_counts, reset_countP rfl]
  · rw [hsum, reset_countP rfl]
  · rw [reset_countP rfl]
    rfl

theorem reportLaw_reset : ReportLaw State.reset :=
  ⟨fun h => absurd rfl h, nofun, nofun, nofun⟩

theorem generationLaw_reset : GenerationLaw State.reset.nv := by
  refine ⟨fun n hdone => ?_, nofun⟩
  rw [reset_gens] at hdone
  cases hdone

/-- Settles O51: law by law. -/
theorem lawsAtReset : Obligations.LawsAtReset := by
  obtain ⟨hfindings, hcounters⟩ := (bounded_iff _).1 bounded_reset
  exact ⟨runningLaw_reset, strobeLaw_reset, fun _ => rfl, hfindings, storeLaw_reset, referenceLaw_reset, trialLaw_reset,
    ⟨fun _ => ⟨rfl, rfl⟩, fun _ => rfl⟩, ⟨.nil, .nil⟩, attemptLaw_reset, nofun, hcounters, countLaw_reset,
    reportLaw_reset, workingMapLaw_empty, generationLaw_reset⟩

end Sys2Proof.Machine
end

section
/-! What a step can do, said once: every step is a run of moves, each an operation of the campaign, the plan or the
epoch with the state it is taken in, or a change aside that no law of the campaign, the plan or the results reads. -/

namespace Sys2Proof.Machine

/-! ## The moves -/

/-- From `s` to `t` nothing has changed that tells the campaign and its lamps, the plan, the progress of its epoch,
the references, the results and the findings. -/
structure Aside (s t : State) : Prop where
  held : t.held = s.held
  links : t.map.links = s.map.links
  campaign : t.campaign.state = s.campaign.state
  result : t.campaign.result = s.campaign.result
  lamps : t.campaign.lamps = s.campaign.lamps
  params : t.campaign.params = s.campaign.params
  retestLimit : t.campaign.retestLimit = s.campaign.retestLimit
  planner : t.planner = s.planner
  number : t.epoch.number = s.epoch.number
  epoch : t.epoch.state = s.epoch.state
  qstb : t.epoch.qstb = s.epoch.qstb
  dstb : t.epoch.dstb = s.epoch.dstb
  received : t.epoch.received = s.epoch.received
  released : t.epoch.released = s.epoch.released
  grading : t.grading = s.grading
  results : t.results = s.results
  findings : t.findings = s.findings
  fetched : ∀ n, (t.nodes.probes.at n).fetchComplete = (s.nodes.probes.at n).fetchComplete
  cursor : ∀ n, (t.nodes.probes.at n).cursor = (s.nodes.probes.at n).cursor

theorem Aside.refl (s : State) : Aside s s :=
  ⟨rfl, rfl, rfl, rfl, rfl, rfl, rfl, rfl, rfl, rfl, rfl, rfl, rfl, rfl, rfl, rfl, rfl, fun _ => rfl, fun _ => rfl⟩

/-- The campaign goes from WAITING to RUNNING, and a plan build starts (R68). -/
def wakeCampaign (s : State) : State :=
  startPlanBuild (showLamps (s.onCampaign fun c => { c with state := .running, waitTimer := none }))

/-- One operation on the campaign, the plan or the epoch, with the state in which it is taken. -/
inductive Move : State → State → Prop
  | aside {s t : State} (h : Aside s t) : Move s t
  | params (s : State) (r : ParamRef) (v : Nat) :
      Move s (s.onCampaign fun c => { c with params := c.params.store r v })
  | hold (kind : ResetKind) (s : State) : Move s (beginHold kind s)
  | reset (kind : ResetKind) (dominant : Bool) (s : State) : Move s (finishReset kind dominant s)
  | restart (dominant : Bool) (s : State) : Move s (restartReset dominant s)
  | write {s : State} (start : Nat) (records : List LinkRecord) (h : s.campaign.state.live = false) :
      Move s (mapEdit (s.onMap fun m => m.edited start records))
  | start {s : State} (h : s.campaign.state.live = false) : Move s (startCampaign s)
  | pause {s : State} (h : s.campaign.state = .waiting) : Move s (enterPaused s)
  | resume {s : State} (h : s.campaign.state = .paused) : Move s (resumeCampaign s)
  | abort {s : State} (h : s.campaign.state.live = true) : Move s (abortCampaign s)
  | wake {s : State} (h : s.campaign.state = .waiting) : Move s (wakeCampaign s)
  | expire {s : State} (h : s.campaign.state = .waiting) : Move s (waitExpires s)
  | blink {s : State} (h : s.campaign.state = .paused) : Move s (blinkLamp s)
  | present (p : Presentation) (s : State) : Move s (present p s)
  | void {s : State} (cause : VoidCause) (h : s.epoch.state ≠ .none) : Move s (enterVoid cause s)
  | plan {s : State} (h : s.epoch.state = .planning) : Move s (decidePlan (makePlan s))
  | fetch {s : State} (n : Slot) (h : s.epoch.state = .announce) : Move s (completeFetch n s)
  | announceEnd {s : State} (h : s.epoch.state = .announce) : Move s (afterWithdrawal (withdraw s))
  | phase1End {s : State} (h : s.epoch.state = .phase1) : Move s (phase1Ends s)
  | gapEnd {s : State} (h : s.epoch.state = .gap) : Move s (gapEnds s)
  | phase2End {s : State} (h : s.epoch.state = .phase2) : Move s (phase2Ends s)
  | deadline {s : State} (h : s.epoch.state = .collecting) : Move s (deadlineRunsOut s)
  | report {s : State} {n : Slot} {bytes : List Byte} {run : List RawEntry} {values : List EntryValue}
      (hwalk : walk (s.planner.entries.at n) (s.nodes.probes.at n).cursor bytes = some run)
      (hvalues : runValues run = some values) (h : s.epoch.state = .collecting ∨ s.epoch.state = .grace) :
      Move s (acceptRun n values s)
  | graceEnd {s : State} (h : s.epoch.state = .grace) : Move s (closeEpoch true (settleGrace s))
  | voidSettle {s : State} (h : s.epoch.state = .void) : Move s (decideAfterSettle (settleVoid s))

/-- A run of moves. -/
abbrev Moves : State → State → Prop := Relation.ReflTransGen Move

namespace Moves

/-- What every move keeps, a run of moves keeps. -/
theorem keeps {P : State → Prop} (hmove : ∀ {s t : State}, Move s t → P s → P t) {s t : State} (h : Moves s t)
    (hs : P s) : P t := by
  induction h with
  | refl => exact hs
  | tail _ hlast ih => exact hmove hlast ih

theorem one {s t : State} (h : Move s t) : Moves s t := .single h

theorem aside {s t : State} (h : Aside s t) : Moves s t := one (.aside h)

section
variable (s : State)

theorem onPort (f : Port → Port) : Moves s (s.onPort f) := aside { Aside.refl s with }

theorem onRail (f : Rail → Rail) : Moves s (s.onRail f) := aside { Aside.refl s with }

theorem onTimebase (f : Timebase → Timebase) : Moves s (s.onTimebase f) := aside { Aside.refl s with }

theorem onNv (f : NvStore → NvStore) : Moves s (s.onNv f) := aside { Aside.refl s with }

/-- A map with the same links is aside. -/
theorem onMap {f : MapStore → MapStore} (h : (f s.map).links = s.map.links) : Moves s (s.onMap f) :=
  aside { Aside.refl s with links := h }

/-- A node table with the same progress of every probe is aside. -/
theorem onNodes {f : NodeTable → NodeTable}
    (hfetched : ∀ n, ((f s.nodes).probes.at n).fetchComplete = (s.nodes.probes.at n).fetchComplete)
    (hcursor : ∀ n, ((f s.nodes).probes.at n).cursor = (s.nodes.probes.at n).cursor) : Moves s (s.onNodes f) :=
  aside { Aside.refl s with fetched := hfetched, cursor := hcursor }

/-! ## The signals to the campaign -/

theorem stationChange : Moves s (stationChange s) := by
  unfold Machine.stationChange
  split
  next => exact aside { Aside.refl s with }
  next h =>
    have hcause : Moves s (s.onCampaign fun c => { c with causes := { c.causes with station := true } }) :=
      aside { Aside.refl s with }
    exact hcause.tail (.pause h)
  next => exact aside { Aside.refl s with }
  all_goals exact .refl

theorem addLineCause : Moves s (addLineCause s) := aside { Aside.refl s with }

theorem lineFault : Moves s (lineFault s) := by
  unfold Machine.lineFault
  split
  next =>
    split
    case h_7 => exact aside { Aside.refl s with }
    case h_8 | h_9 => exact addLineCause s
    all_goals
      next h => exact (addLineCause s).tail (.void .line (fun hnone => by cases h.symm.trans hnone))
  next h => exact (addLineCause s).tail (.pause h)
  next => exact addLineCause s
  all_goals exact .refl

theorem transitionIntoActive : Moves s (transitionIntoActive s) := by
  by_cases h : s.campaign.state = .waiting
  · rw [transitionIntoActive_waiting h]
    exact one (.wake h)
  · rw [transitionIntoActive_other h]

/-! ## The node table -/

/-- Setting a probe record that keeps the probe's progress is aside. -/
theorem setProbe {n : Slot} {r : NodeRecord} (hfetched : r.fetchComplete = (s.nodes.probes.at n).fetchComplete)
    (hcursor : r.cursor = (s.nodes.probes.at n).cursor) : Moves s (setProbe n r s) := by
  refine onNodes s (fun m => ?_) (fun m => ?_) <;> dsimp only <;> rw [Table.at_put] <;> split
  next h => rw [h, hfetched]
  next => rfl
  next h => rw [h, hcursor]
  next => rfl

theorem enrolProbe (n : Slot) (channels : Nat) : Moves s (enrolProbe n channels s) := by
  have hset : Moves s (Machine.setProbe n ((s.nodes.probes.at n).enrolled channels) s) := setProbe s rfl rfl
  unfold Machine.enrolProbe
  split
  · exact hset
  · exact hset.trans (transitionIntoActive _)

theorem admitStation (identity : Nat) : Moves s (admitStation identity s) :=
  onNodes s (fun _ => rfl) (fun _ => rfl)

theorem enrolStation (how : Admission) (identity : Nat) : Moves s (enrolStation how identity s) := by
  cases how with
  | fresh => exact (admitStation s identity).trans (transitionIntoActive _)
  | again => exact admitStation s identity
  | takeover => exact (admitStation s identity).trans (stationChange _)

theorem probeLeaves (n : Slot) : Moves s (probeLeaves n s) := setProbe s rfl rfl

theorem stationLeaves : Moves s (stationLeaves s) :=
  (onNodes s (fun _ => rfl) (fun _ => rfl)).trans (stationChange _)

theorem setPresence (n : Slot) (f : PresenceFilter) : Moves s (setPresence n f s) :=
  onNodes s (fun _ => rfl) (fun _ => rfl)

/-! ## The requests -/

theorem ownerAnswers (k : RequestKind) (who : Sender) (payload : List Byte) :
    Moves s (ownerAnswers k who payload s).1 := by
  cases k with
  | enrol =>
    rcases answerEnrol_state payload s who with e | ⟨n, channels, _, e⟩ | ⟨how, identity, _, e⟩ <;>
      rw [Machine.ownerAnswers, e]
    · exact enrolProbe s n channels
    · exact enrolStation s how identity
  | leave =>
    rcases answerLeave_state payload s who with e | ⟨n, _, e⟩ | ⟨_, e⟩ <;> rw [Machine.ownerAnswers, e]
    · exact probeLeaves s n
    · exact stationLeaves s
  | status => rw [Machine.ownerAnswers, answerStatus_state]
  | ident => rw [Machine.ownerAnswers, answerIdent_state]
  | arm =>
    rcases answerArm_state payload s with e | ⟨a, e⟩ <;> rw [Machine.ownerAnswers, e]
    exact onPort ..
  | paramSet =>
    rcases answerParamSet_state payload s with e | ⟨n, r, v, _, _, e⟩ <;> rw [Machine.ownerAnswers, e]
    exact one (.params s r v)
  | paramGet => rw [Machine.ownerAnswers, answerParamGet_state]
  | mapWrite =>
    rcases answerMapWrite_state payload s with e | ⟨start, records, hset, _, e⟩ <;> rw [Machine.ownerAnswers, e]
    exact one (.write start records ((settled_iff_not_live _).1 hset))
  | mapRead => rw [Machine.ownerAnswers, answerMapRead_state]
  | mapValidate =>
    rcases answerMapValidate_state payload s with e | ⟨_, _, e⟩ <;> rw [Machine.ownerAnswers, e]
    exact onMap s rfl
  | mapBurn =>
    rcases answerMapBurn_state payload s with e | ⟨n, _, _, _, _, e⟩ <;> rw [Machine.ownerAnswers, e]
    exact onNv ..
  | campaignStart =>
    rcases answerStart_state payload s with e | ⟨h, _, e⟩ <;> rw [Machine.ownerAnswers, e]
    exact one (.start h)
  | campaignPause =>
    rcases answerPause_state payload s with e | ⟨_, e⟩ | ⟨h, e⟩ <;> rw [Machine.ownerAnswers, e]
    · exact aside { Aside.refl s with }
    · exact one (.pause h)
  | campaignResume =>
    rcases answerResume_state payload s with e | ⟨h, e⟩ <;> rw [Machine.ownerAnswers, e]
    exact one (.resume h)
  | campaignAbort =>
    rcases answerAbort_state payload s with e | ⟨h, e⟩ <;> rw [Machine.ownerAnswers, e]
    exact one (.abort h)
  | fetch =>
    cases who with
    | probe n =>
      rcases answerFetch_state payload s n with e | ⟨h, e⟩ <;> rw [Machine.ownerAnswers, probeOnly, e]
      exact one (.fetch n h)
    | station => exact .refl
  | report =>
    cases who with
    | probe n =>
      rcases answerReport_state payload s n with e | ⟨_, _, _, hwalk, hvalues, h, e⟩ <;>
        rw [Machine.ownerAnswers, probeOnly, e]
      exact one (.report hwalk hvalues h)
    | station => exact .refl
  | resultRead => rw [Machine.ownerAnswers, answerResultRead_state]
  | findingRead => rw [Machine.ownerAnswers, answerFindingRead_state]
  | certCommit =>
    rcases answerCertCommit_state payload s with e | ⟨c, _, _, _, e⟩ <;> rw [Machine.ownerAnswers, e]
    exact onNv ..
  | certRead => rw [Machine.ownerAnswers, answerCertRead_state]
  | restart =>
    rcases answerRestart_state payload s with e | ⟨_, e⟩ <;> rw [Machine.ownerAnswers, e]
    exact aside { Aside.refl s with }

theorem replied (header : Byte) (a : Answer) : Moves s (replied header a s) := by
  obtain ⟨hprobes, -, -, -⟩ := replied_nodes header a s
  exact aside { Aside.refl s with fetched := fun _ => by rw [hprobes], cursor := fun _ => by rw [hprobes] }

theorem takeRequest (header kind : Byte) (payload : List Byte) : Moves s (takeRequest header kind payload s) := by
  have hheard : Moves s (presentToArm s) := onPort ..
  rw [Machine.takeRequest, ← Prod.mk.eta (p := decideRequest _ _ _ _ _), reply_eq_replied]
  refine (hheard.trans ?_).trans (replied ..)
  rcases decideRequest_state header kind (marksArmed s.port.arm header kind) payload (presentToArm s) with
    e | ⟨k, who, _, _, _, e⟩ <;> rw [e]
  exact ownerAnswers _ k who payload

theorem deliver (header kind : Byte) (payload : List Byte) : Moves s (deliver header kind payload s) := by
  unfold Machine.deliver
  split
  · exact (onPort ..).trans (takeRequest ..)
  · exact onPort ..

/-! ## The line and the reply -/

theorem endOfData : Moves s (endOfData s) := by
  unfold Machine.endOfData testFrame
  split_ifs
  · exact takeRequest ..
  · exact onPort ..
  · exact onPort ..
  · exact .refl

theorem afterReply (dominant : Bool) : Moves s (afterReply dominant s) := by
  unfold Machine.afterReply
  split
  · exact one (.restart dominant s)
  · exact .refl

theorem replyCollides : Moves s (replyCollides s) := (onPort ..).trans (afterReply ..)

theorem replyStarts (dominant : Bool) : Moves s (replyStarts dominant s) := by
  unfold Machine.replyStarts
  split_ifs
  · exact replyCollides s
  · exact onPort ..
  · exact .refl

theorem replyCutOff : Moves s (replyCutOff s) := by
  unfold Machine.replyCutOff
  split
  · exact replyCollides s
  · exact .refl

theorem replyCompletes (dominant : Bool) : Moves s (replyCompletes dominant s) := by
  unfold Machine.replyCompletes
  split
  · exact (onPort ..).trans (afterReply ..)
  · exact .refl

theorem levelReaches300 : Moves s (levelReaches300 s) := by
  unfold Machine.levelReaches300
  split
  case h_4 => exact .refl
  case h_5 => exact onPort ..
  all_goals exact (replyCutOff s).trans (onPort ..)

theorem levelReaches20ms : Moves s (levelReaches20ms s) := by
  unfold Machine.levelReaches20ms stuckBegins
  split
  · exact onPort ..
  · exact (((levelReaches300 s).trans (onPort ..)).trans (lineFault _)).tail (.present ..)

/-! ## The ends of work and the timers -/

theorem completeScan : Moves s (completeScan s) := by
  have hscanned : s.map.scanned.links = s.map.links := by
    unfold MapStore.scanned
    split
    · rfl
    · split <;> rfl
  unfold Machine.completeScan
  split
  · exact onMap s hscanned
  · exact .refl

theorem completeBurn (flaws : List (Nat × Byte)) : Moves s (completeBurn flaws s) := by
  unfold Machine.completeBurn
  split
  · exact aside { Aside.refl s with }
  · exact .refl

theorem completeCertificate (flaws : List (Nat × Byte)) : Moves s (completeCertificate flaws s) := by
  unfold Machine.completeCertificate
  split
  · exact aside { Aside.refl s with }
  · exact .refl

theorem presenceSeats (n : Slot) : Moves s (presenceSeats n s) := by
  unfold Machine.presenceSeats
  split
  · exact .refl
  · exact setPresence ..

theorem presenceLost (n : Slot) : Moves s (presenceLost n s) := by
  unfold Machine.presenceLost
  split
  · exact (setPresence ..).trans (probeLeaves ..)
  · exact .refl

/-- An operation that acts in one state alone is a move or nothing. -/
theorem ite {c : Prop} [Decidable c] {t : State} (h : c → Move s t) : Moves s (if c then t else s) := by
  split
  next hc => exact one (h hc)
  next => exact .refl

theorem planEnds : Moves s (planEnds s) := ite s .plan

theorem announceEnds : Moves s (announceEnds s) := ite s .announceEnd

theorem graceEnds : Moves s (graceEnds s) := ite s .graceEnd

theorem voidSettles : Moves s (voidSettles s) := ite s .voidSettle

/-- An operation that leaves the state alone outside one state is a move or nothing. -/
theorem of_guard {c : Prop} {t : State} (hin : c → Move s t) (hout : ¬c → t = s) : Moves s t := by
  by_cases hc : c
  · exact one (hin hc)
  · rw [hout hc]

theorem waitExpires : Moves s (waitExpires s) := of_guard s .expire (fun h => if_neg h)

theorem phase1Ends : Moves s (phase1Ends s) := of_guard s .phase1End (fun h => if_neg h)

theorem gapEnds : Moves s (gapEnds s) := of_guard s .gapEnd (fun h => if_neg h)

theorem phase2Ends : Moves s (phase2Ends s) := of_guard s .phase2End (fun h => if_neg h)

theorem deadlineRunsOut : Moves s (deadlineRunsOut s) := of_guard s .deadline (fun h => if_neg h)

theorem blinkLamp : Moves s (blinkLamp s) := of_guard s .blink (fun h => if_neg h)

/-! ## Supervision -/

theorem signalSag : Moves s (signalSag s) := by
  unfold Machine.signalSag
  split
  case h_1 h | h_2 h | h_3 h => exact one (.void .rail (by rw [h]; decide))
  all_goals exact .refl

theorem sagFilterExpires : Moves s (sagFilterExpires s) := by
  unfold Machine.sagFilterExpires railChanges
  split
  · split
    · exact (onRail ..).trans (signalSag _)
    · exact onRail ..
  · exact .refl

theorem clockLost : Moves s (clockLost s) := by
  unfold Machine.clockLost loseClock
  split
  · split
    · exact aside { Aside.refl s with }
    · exact onTimebase ..
  · exact .refl

theorem returnTimerExpires : Moves s (returnTimerExpires s) := by
  unfold Machine.returnTimerExpires
  split_ifs
  · exact aside { Aside.refl s with }
  · exact onTimebase ..
  · exact .refl

/-! ## The resets -/

theorem powerResets (dominant low : Bool) (decay : List NvDecay) : Moves s (powerResets dominant low decay s) := by
  have hdecayed : Moves s (decayStore decay s) := onNv ..
  unfold Machine.powerResets
  split
  · exact hdecayed.tail (.hold ..)
  · exact hdecayed.tail (.reset ..)

theorem nresetFalls : Moves s (nresetFalls s) := by
  unfold Machine.nresetFalls
  split
  · exact .refl
  · exact one (.hold ..)

theorem tick : Moves s (tick s) := aside { Aside.refl s with }

end

/-! ## The step -/

section
variable {s t : State}

/-- A row that acts outside a reset alone is a run of moves if its operation is. -/
theorem of_next {f : State → State} (hf : Moves s (f s))
    (hx : (.next (unlessHeld f s) : Host.Outcome State Fault Refusal) = .next t) : Moves s t := by
  cases hx
  exact unlessHeld_keeps (P := Moves s) (fun _ => hf) .refl

theorem of_exec (c : Instr) (hx : exec c s = .next t) : Moves s t := by
  cases c
  case startMark | noiseEvent | breakEnd | stuckClear | stuckWaitRestart | bitPulse | endOfFrame
      | dominantEdgeAfterReply => exact of_next (onPort ..) hx
  case endOfData => exact of_next (endOfData s) hx
  case lineBreak => exact of_next (levelReaches300 s) hx
  case stuck => exact of_next (levelReaches20ms s) hx
  case replyStart => exact of_next (replyStarts s _) hx
  case replyCollision => exact of_next (replyCutOff s) hx
  case replyComplete => exact of_next (replyCompletes s _) hx
  case scanComplete => exact of_next (completeScan s) hx
  case burnComplete => exact of_next (completeBurn s _) hx
  case certWriteComplete => exact of_next (completeCertificate s _) hx
  case presenceSeated => exact of_next (presenceSeats s _) hx
  case presenceLoss => exact of_next (presenceLost s _) hx
  case planEnd => exact of_next (planEnds s) hx
  case waitExpiry => exact of_next (waitExpires s) hx
  case announceEnd => exact of_next (announceEnds s) hx
  case phase1End => exact of_next (phase1Ends s) hx
  case gapEnd => exact of_next (gapEnds s) hx
  case phase2End => exact of_next (phase2Ends s) hx
  case reportDeadline => exact of_next (deadlineRunsOut s) hx
  case graceEnd => exact of_next (graceEnds s) hx
  case voidSettleEnd => exact of_next (voidSettles s) hx
  case sagFilterExpiry => exact of_next (sagFilterExpires s) hx
  case refclkEdge => exact of_next (f := refclkEdge) (onTimebase ..) hx
  case clockLoss => exact of_next (clockLost s) hx
  case returnTimerExpiry => exact of_next (returnTimerExpires s) hx
  case lampBlink => exact of_next (blinkLamp s) hx
  case presenceDeparture =>
    cases hx
    split <;> exact setPresence ..
  case rsenseDeparture =>
    cases hx
    split <;> exact onRail ..
  case powerReset =>
    cases hx
    exact powerResets ..
  case nresetAsserted =>
    cases hx
    exact nresetFalls s
  case pinReset =>
    cases hx
    exact one (.reset ..)
  all_goals exact of_next (deliver s _ _ _) hx

/-- Every step is a run of moves. -/
theorem of_step (h : step s = .next t) : Moves s t := by
  cases hp : s.pending with
  | nil =>
    rw [step_nil s hp] at h
    exact of_next (tick s) h
  | cons c rest =>
    rw [step_cons c rest s hp] at h
    have hqueue : Moves s { s with pending := rest } := aside { Aside.refl s with }
    exact hqueue.trans (of_exec c h)

end

end Moves

end Sys2Proof.Machine
end

section
/-! What the entries of the campaign leave, field by field, and what one grading does, whichever kind it is. -/

namespace Sys2Proof.Machine

/-! ## Lamps, entries of the campaign and plan builds -/

/-- The table of the lamps reads the campaign's state and result, the blink, the counts and the findings (R71). -/
theorem lampsFor_congr {s t : State} (hstate : t.campaign.state = s.campaign.state)
    (hresult : t.campaign.result = s.campaign.result) (hrun : t.campaign.lamps.run = s.campaign.lamps.run)
    (hresults : t.results = s.results) (hfindings : t.findings = s.findings) : lampsFor t = lampsFor s := by
  simp only [lampsFor, badCondition, hstate, hresult, hrun, hresults, hfindings]

/-- Lamps once shown are those of the table: in PAUSED the run lamp stays as it was (R71). -/
theorem showLamps_lamps (s : State) : (showLamps s).campaign.lamps = lampsFor (showLamps s) := by
  cases h : s.campaign.state <;> simp [showLamps, lampsFor, h, badCondition]

section
variable (s : State)

@[simp] theorem enterPaused_state : (enterPaused s).campaign.state = .paused := rfl
@[simp] theorem enterWaiting_state : (enterWaiting s).campaign.state = .waiting := rfl
@[simp] theorem enterDone_state : (enterDone s).campaign.state = .done := rfl
@[simp] theorem abortCampaign_state : (abortCampaign s).campaign.state = .aborted := rfl
@[simp] theorem startPlanBuild_campaign : (startPlanBuild s).campaign = s.campaign := rfl
@[simp] theorem startPlanBuild_epoch : (startPlanBuild s).epoch.state = .planning := rfl
@[simp] theorem enterVoid_epoch (cause : VoidCause) : (enterVoid cause s).epoch.state = .void := by
  rw [enterVoid_frame]

end

/-! ## One grading -/

/-- A graded leg's record is written and its trial marked, as every grading does (R82, R132, R133). -/
def recordGrading (y : Trial) (r : LegResult) (s : State) : State := markGraded y.number (settleOrRetest y.leg r s)

theorem gradeNoReport_eq (s : State) (y : Trial) :
    gradeNoReport s y = recordGrading y (s.noReportOf y.leg) s := rfl

theorem verdictOf_ne_none (th : Thresholds) (rf : Nat) (st : DriveStatus) (x : Reading) (ns : List Reading) :
    verdictOf th rf st x ns ≠ .none := by
  unfold verdictOf
  split_ifs <;> decide

/-- A trial whose entries are found is graded with a verdict, after its findings are presented. -/
theorem gradeTrial_found {s : State} {y : Trial} {st : DriveStatus} {x : Reading} (hd : driverEntry s y = some st)
    (hx : expectedEntry s y = some x) :
    ∃ r ps, r.verdict ≠ .none ∧ gradeTrial s y = recordGrading y r (presentAll ps s) := by
  refine ⟨?_, ?_, ?_, ?eq⟩
  case eq =>
    rw [gradeTrial, hd, hx]
    rfl
  exact verdictOf_ne_none _ _ _ _ _

theorem gradeTrial_cases (s : State) (y : Trial) :
    gradeTrial s y = s ∨ ∃ r ps, r.verdict ≠ .none ∧ gradeTrial s y = recordGrading y r (presentAll ps s) := by
  cases hd : driverEntry s y with
  | none => exact .inl (by rw [gradeTrial, hd])
  | some st =>
    cases hx : expectedEntry s y with
    | none => exact .inl (by rw [gradeTrial, hd, hx])
    | some x => exact .inr (gradeTrial_found hd hx)

section
variable (y : Trial) (r : LegResult) (s : State)

theorem recordGrading_frame :
    recordGrading y r s = { s with
      results := (recordGrading y r s).results
      planner := { s.planner with
        queue := (recordGrading y r s).planner.queue, trials := (recordGrading y r s).planner.trials }
      campaign := { s.campaign with
        lamps := (recordGrading y r s).campaign.lamps
        blinkTimer := (recordGrading y r s).campaign.blinkTimer } } := by
  unfold recordGrading
  rw [markGraded_frame, settleOrRetest_frame]

/-- A leg not settled joins the tail of the queue (R133). -/
theorem recordGrading_queue :
    (recordGrading y r s).planner.queue = s.planner.queue ++ if r.settled then [] else [y.leg] := by
  unfold recordGrading settleOrRetest
  cases r.settled
  · rfl
  · exact (List.append_nil _).symm

theorem recordGrading_trials :
    (recordGrading y r s).planner.trials
      = s.planner.trials.map fun x => if x.number = y.number then { x with state := .graded } else x := by
  unfold recordGrading settleOrRetest
  cases r.settled <;> rfl

theorem recordGrading_results :
    (recordGrading y r s).results
      = if r.settled then (s.results.write y.leg r).count r.verdict else s.results.write y.leg r := by
  unfold recordGrading settleOrRetest
  cases r.settled <;> rfl

/-- The lamps show the table once the record is written (R71). -/
theorem recordGrading_lamps : (recordGrading y r s).campaign.lamps = lampsFor (recordGrading y r s) :=
  showLamps_lamps _

end

end Sys2Proof.Machine
end

section
/-! The law of the outputs (R57, R71, R97, R104): every move keeps that epochs exist exactly while the campaign is
RUNNING, the strobes belong to the phases, and the lamps are those of the table. -/

namespace Sys2Proof.Machine

/-- `RunningLaw`, `StrobeLaw` and `LampLaw` together. -/
structure Lit (s : State) : Prop where
  running : RunningLaw s
  strobes : StrobeLaw s
  lamps : LampLaw s

/-- Both strobes are low. -/
def StrobesLow (s : State) : Prop := s.epoch.qstb = false ∧ s.epoch.dstb = false

/-! ## The three laws apart -/

section
variable {s t : State}

theorem RunningLaw.state_running (h : RunningLaw s) (he : s.epoch.state ≠ .none) : s.campaign.state = .running :=
  h.2 he

theorem RunningLaw.epoch_none (h : RunningLaw s) (hc : s.campaign.state ≠ .running) : s.epoch.state = .none :=
  not_not.1 (mt h.2 hc)

theorem runningLaw_ended (hc : s.campaign.state ≠ .running) (he : s.epoch.state = .none) : RunningLaw s :=
  ⟨fun h => absurd h hc, fun h => absurd he h⟩

theorem runningLaw_open (hc : s.campaign.state = .running) (he : s.epoch.state ≠ .none) : RunningLaw s :=
  ⟨fun _ => he, fun _ => hc⟩

theorem state_ne_running (h : s.campaign.state.live = false) : s.campaign.state ≠ .running := by
  rintro hrun
  rw [hrun] at h
  cases h

theorem StrobesLow.law (h : StrobesLow s) : StrobeLaw s :=
  ⟨fun hboth => Bool.false_ne_true (h.1.symm.trans hboth.1), fun _ _ => h⟩

theorem Lit.quiet (h : Lit s) (h1 : s.epoch.state ≠ .phase1) (h2 : s.epoch.state ≠ .phase2) : StrobesLow s :=
  h.strobes.2 h1 h2

/-- While the campaign is not RUNNING there is no epoch, and the strobes are low. -/
theorem Lit.quiet_ended (h : Lit s) (hc : s.campaign.state ≠ .running) : StrobesLow s := by
  have hnone := h.running.epoch_none hc
  exact h.quiet (by simp [hnone]) (by simp [hnone])

/-- With no epoch, the strobes low and the lamps of the table, the outputs are lawful. -/
theorem lit_ended (hc : t.campaign.state ≠ .running) (he : t.epoch.state = .none) (hs : StrobesLow t)
    (hl : t.campaign.lamps = lampsFor t) : Lit t :=
  ⟨runningLaw_ended hc he, hs.law, fun _ => hl⟩

/-! ## The shared operations -/

theorem Lit.showLamps (h : Lit s) : Lit (showLamps s) where
  running := h.running
  strobes := h.strobes
  lamps _ := showLamps_lamps s

theorem Lit.onRail (f : Rail → Rail) (h : Lit s) : Lit (s.onRail f) := { h with }

theorem Lit.present (p : Presentation) (h : Lit s) : Lit (present p s) := by
  unfold Machine.present
  split
  · exact { running := h.running, strobes := h.strobes, lamps := fun _ => showLamps_lamps _ }
  · exact h

theorem Lit.presentAll (ps : List Presentation) (h : Lit s) : Lit (presentAll ps s) := by
  induction ps generalizing s with
  | nil => exact h
  | cons p ps ih => exact ih (h.present p)

theorem lit_enterPaused (s : State) : Lit (enterPaused s) := lit_ended (by simp) rfl ⟨rfl, rfl⟩ rfl

theorem lit_enterWaiting (s : State) : Lit (enterWaiting s) := lit_ended (by simp) rfl ⟨rfl, rfl⟩ rfl

theorem lit_enterDone (s : State) : Lit (enterDone s) := lit_ended (by simp) rfl ⟨rfl, rfl⟩ (showLamps_lamps _)

/-- A plan build starts in a RUNNING campaign with the strobes low and the lamps shown. -/
theorem lit_startPlanBuild (hc : s.campaign.state = .running) (hs : StrobesLow s) (hl : LampLaw s) :
    Lit (startPlanBuild s) where
  running := runningLaw_open hc (by simp)
  strobes := StrobesLow.law hs
  lamps := hl

/-- A campaign that was not RUNNING is made so, with its lamps shown, and a plan build starts. -/
theorem lit_campaignRuns {u : State} (h : Lit s) (hc : s.campaign.state ≠ .running) (hu : u.campaign.state = .running)
    (hq : u.epoch.qstb = s.epoch.qstb) (hd : u.epoch.dstb = s.epoch.dstb) :
    Lit (startPlanBuild (Machine.showLamps u)) := by
  obtain ⟨hqstb, hdstb⟩ := h.quiet_ended hc
  exact lit_startPlanBuild hu ⟨hq.trans hqstb, hd.trans hdstb⟩ fun _ => showLamps_lamps u

/-- A change of the epoch of a RUNNING campaign owes the strobes alone. -/
theorem Lit.onEpoch {f : Epoch → Epoch} (he : s.epoch.state ≠ .none) (hf : (f s.epoch).state ≠ .none)
    (hs : StrobeLaw (s.onEpoch f)) (h : Lit s) : Lit (s.onEpoch f) where
  running := runningLaw_open (h.running.state_running he) hf
  strobes := hs
  lamps := h.lamps

theorem Lit.void (cause : VoidCause) (he : s.epoch.state ≠ .none) (h : Lit s) : Lit (enterVoid cause s) := by
  have hvoid : Lit (s.onEpoch fun e =>
      { e with qstb := false, dstb := false, state := .void, timer := some (s.p 5 * 1000) }) :=
    h.onEpoch he (by simp) (StrobesLow.law ⟨rfl, rfl⟩)
  cases cause with
  | line => exact { hvoid with }
  | rail =>
    unfold enterVoid countVoid
    dsimp only
    rw [placeRailCause_frame]
    exact { (hvoid.onRail _).present _ with }

/-- An epoch outside the phases closes into PAUSED, DONE or a plan build. -/
theorem Lit.closeEpoch (normal : Bool) (he : s.epoch.state ≠ .none) (h1 : s.epoch.state ≠ .phase1)
    (h2 : s.epoch.state ≠ .phase2) (h : Lit s) : Lit (closeEpoch normal s) := by
  rw [closeEpoch_eq]
  rcases decideAfterClose_cases (markClosed normal s) with ⟨_, e⟩ | ⟨_, _, _, e⟩ | ⟨_, _, e⟩ <;> rw [e]
  · exact lit_enterPaused _
  · exact lit_enterDone _
  · exact lit_startPlanBuild (h.running.state_running he) (h.quiet h1 h2) h.lamps

theorem Lit.beginPhase {place : EpochState} (quiet : Bool) (hplace : place = .phase1 ∨ place = .phase2)
    (he : s.epoch.state ≠ .none) (h : Lit s) : Lit (beginPhase place quiet s) := by
  refine h.onEpoch he ?_ ⟨by cases quiet <;> simp, fun h1 h2 => ?_⟩
  · rcases hplace with rfl | rfl <;> simp
  · exact (hplace.elim h1 h2).elim

/-! ## The gradings -/

theorem Lit.recordGrading (y : Trial) (r : LegResult) (h : Lit s) : Lit (recordGrading y r s) := by
  have hlamps := recordGrading_lamps y r s
  rw [recordGrading_frame] at hlamps ⊢
  exact ⟨h.running, h.strobes, fun _ => hlamps⟩

theorem Lit.gradeTrial (y : Trial) (h : Lit s) : Lit (gradeTrial s y) := by
  rcases gradeTrial_cases s y with e | ⟨r, ps, _, e⟩ <;> rw [e]
  · exact h
  · exact (h.presentAll ps).recordGrading y r

theorem Lit.gradeNoReport (y : Trial) (h : Lit s) : Lit (gradeNoReport s y) := h.recordGrading y _

end

/-! ## The moves -/

section
variable {s t : State}

theorem Lit.aside (ha : Aside s t) (h : Lit s) : Lit t where
  running := by
    unfold RunningLaw
    rw [ha.campaign, ha.epoch]
    exact h.running
  strobes := by
    unfold StrobeLaw
    rw [ha.epoch, ha.qstb, ha.dstb]
    exact h.strobes
  lamps hheld := by
    rw [ha.lamps, lampsFor_congr ha.campaign ha.result (by rw [ha.lamps]) ha.results ha.findings]
    exact h.lamps (ha.held.symm.trans hheld)

theorem Lit.mapEdit (hlive : s.campaign.state.live = false) (h : Lit s) : Lit (mapEdit s) := by
  by_cases hidle : s.campaign.state = .idle
  · rw [mapEdit_idle hidle]
    exact h
  · have hrunning := state_ne_running hlive
    rw [Machine.mapEdit, if_pos (ended_of_settled hlive hidle)]
    exact lit_ended (by simp [Machine.showLamps, applyReturn]) (h.running.epoch_none hrunning)
      (h.quiet_ended hrunning) (showLamps_lamps _)

theorem Lit.decidePlan (he : s.epoch.state = .planning) (h : Lit s) : Lit (decidePlan s) := by
  have hopen : s.epoch.state ≠ .none := by simp [he]
  rcases decidePlan_cases s with ⟨_, e⟩ | ⟨_, _, e⟩ | ⟨_, _, _, e⟩ | ⟨_, _, _, e⟩ <;> rw [e]
  · exact h.void .line hopen
  · rcases emptyPlan_cases s with ⟨_, e⟩ | ⟨_, _, e⟩ | ⟨_, _, e⟩ <;> rw [e]
    · exact lit_enterDone _
    · exact lit_enterPaused _
    · exact lit_enterWaiting _
  · exact lit_enterPaused _
  · exact h.onEpoch hopen (by simp) (StrobesLow.law (h.quiet (by simp [he]) (by simp [he])))

theorem Lit.withdraw (h : Lit s) : Lit (withdraw s) := by
  rw [withdraw_frame]
  exact { h with }

theorem Lit.afterWithdrawal (he : s.epoch.state = .announce) (h : Lit s) : Lit (afterWithdrawal s) := by
  have hopen : s.epoch.state ≠ .none := by simp [he]
  unfold Machine.afterWithdrawal
  split
  · exact h.closeEpoch false hopen (by simp [he]) (by simp [he])
  · split
    · exact h.void .rail hopen
    · have hmarked : Lit (s.onEpoch fun e =>
          { e with driveFirst := s.p 4 != 0, backup := e.backup || s.timebase.source == .backup }) := { h with }
      exact hmarked.beginPhase _ (.inl rfl) hopen

theorem Lit.lowered (he : s.epoch.state ≠ .none) (h : Lit s) : Lit (strobesLow s) :=
  h.onEpoch he he (StrobesLow.law ⟨rfl, rfl⟩)

theorem Lit.acceptRun (n : Slot) (values : List EntryValue)
    (he : s.epoch.state = .collecting ∨ s.epoch.state = .grace) (h : Lit s) : Lit (acceptRun n values s) := by
  have hstored : Lit (storeRun n values s) := { h with }
  have hcomplete : Lit (completeReport n (storeRun n values s)) :=
    List.foldlRecOn (motive := Lit) _ _ { hstored with } fun _ hu y _ => hu.gradeTrial y
  have hepoch : (completeReport n (storeRun n values s)).epoch.state = s.epoch.state :=
    List.foldlRecOn (motive := fun u : State => u.epoch.state = s.epoch.state) _ _ rfl fun (_ : State) hu y _ => by
      rw [gradeTrial_frame]
      exact hu
  unfold Machine.acceptRun closeIfDone
  split_ifs
  · refine hcomplete.closeEpoch true ?_ ?_ ?_ <;> rw [hepoch] <;> rcases he with he | he <;> simp [he]
  · exact hcomplete
  · exact hstored

theorem Lit.move (hm : Move s t) (h : Lit s) : Lit t := by
  cases hm with
  | aside ha => exact h.aside ha
  | params | fetch => exact { h with }
  | hold => exact ⟨h.running, StrobesLow.law ⟨rfl, rfl⟩, nofun⟩
  | reset | restart => exact lit_ended nofun rfl ⟨rfl, rfl⟩ rfl
  | write start records hlive => exact Lit.mapEdit (s := s.onMap _) hlive { h with }
  | start hlive => exact lit_campaignRuns h (state_ne_running hlive) rfl rfl rfl
  | pause => exact lit_enterPaused s
  | resume hc => exact lit_campaignRuns h (by simp [hc]) rfl rfl rfl
  | abort => exact lit_ended (by simp) rfl ⟨rfl, rfl⟩ rfl
  | wake hc => exact lit_campaignRuns h (by simp [hc]) rfl rfl rfl
  | expire hc =>
    rw [waitExpires, if_pos hc]
    exact lit_enterDone _
  | blink hc =>
    rw [blinkLamp, if_pos hc]
    refine ⟨h.running, h.strobes, fun hheld => ?_⟩
    have hgood : s.campaign.lamps.good = false :=
      (congrArg Lamps.good (h.lamps hheld)).trans (by simp [lampsFor, hc])
    have hbad : s.campaign.lamps.bad = badCondition s :=
      (congrArg Lamps.bad (h.lamps hheld)).trans (by simp [lampsFor, hc])
    simp [lampsFor, hc, hgood, hbad, badCondition]
  | present p => exact h.present p
  | void cause he => exact h.void cause he
  | plan he => exact Lit.decidePlan (s := makePlan s) he { h with }
  | announceEnd he => exact h.withdraw.afterWithdrawal (by rw [withdraw_frame]; exact he)
  | phase1End he =>
    have hdown := h.lowered (by simp [he])
    rw [phase1Ends, if_pos he]
    split
    · exact hdown.beginPhase _ (.inr rfl) (by simp [Machine.strobesLow, he])
    · exact hdown.onEpoch (by simp [Machine.strobesLow, he]) (by simp) (StrobesLow.law ⟨rfl, rfl⟩)
  | gapEnd he =>
    rw [gapEnds, if_pos he]
    exact h.beginPhase _ (.inr rfl) (by simp [he])
  | phase2End he =>
    rw [phase2Ends, if_pos he]
    have hdown := h.lowered (by simp [he])
    exact hdown.onEpoch (by simp [Machine.strobesLow, he]) (by simp) (StrobesLow.law ⟨rfl, rfl⟩)
  | deadline he =>
    rw [deadlineRunsOut, if_pos he]
    exact h.onEpoch (by simp [he]) (by simp) (StrobesLow.law (h.quiet (by simp [he]) (by simp [he])))
  | report _ _ he => exact h.acceptRun _ _ he
  | graceEnd he =>
    have hgraded : Lit ((heldTrials s).foldl Machine.gradeNoReport s) :=
      List.foldlRecOn (motive := Lit) _ _ h fun _ hu y _ => hu.gradeNoReport y
    have hsettled : Lit (settleGrace s) := by
      rw [settleGrace_frame]
      exact { hgraded with }
    have hepoch : (settleGrace s).epoch.state = .grace := by
      rw [settleGrace_frame, gradeNoReports_frame]
      exact he
    exact hsettled.closeEpoch true (by simp [hepoch]) (by simp [hepoch]) (by simp [hepoch])
  | voidSettle he =>
    rcases decideAfterSettle_cases (settleVoid s) with ⟨_, e⟩ | ⟨_, _, e⟩ <;> rw [e]
    · exact lit_enterPaused _
    · exact lit_startPlanBuild (h.running.state_running (by simp [he]))
        (h.quiet (by simp [he]) (by simp [he])) h.lamps

end

/-- Settles O52: every move keeps the three laws. -/
theorem outputsStayLawful : Obligations.OutputsStayLawful := by
  rintro s t ⟨hrunning, hstrobes, hlamps⟩ hstep
  have h : Lit t := (Moves.of_step hstep).keeps (P := Lit) Lit.move ⟨hrunning, hstrobes, hlamps⟩
  exact ⟨h.running, h.strobes, h.lamps⟩

end Sys2Proof.Machine
end

section
/-! The plan (R83, R88, R91, R94, R95): the trials a scan of the queue admits, what the plan end makes of the queue,
and the duties and entries of an admitted trial. -/

namespace Sys2Proof.Machine

/-! ## The scan of the queue -/

section
variable (m : MapStore) (snapshot : List (Slot × Nat))

theorem admitLeg_fits {adm : List Trial} {l : LegIx}
    (h : fits snapshot adm (m.driverEnd l) (m.receiverEnd l) = true) :
    admitLeg m snapshot adm l = adm ++ [newTrial m adm.length l] := if_pos h

theorem admitLeg_skips {adm : List Trial} {l : LegIx}
    (h : ¬fits snapshot adm (m.driverEnd l) (m.receiverEnd l) = true) : admitLeg m snapshot adm l = adm := if_neg h

/-- A scan goes on from the trials admitted so far, and admits legs of its queue in order (R88). -/
theorem foldl_admitLeg (queue : List LegIx) (adm : List Trial) :
    ∃ new, queue.foldl (admitLeg m snapshot) adm = adm ++ new ∧ (new.map (·.leg)).Sublist queue := by
  induction queue generalizing adm with
  | nil => exact ⟨[], (List.append_nil _).symm, .slnil⟩
  | cons l queue ih =>
    obtain ⟨new, heq, hsub⟩ := ih (admitLeg m snapshot adm l)
    rw [List.foldl_cons, heq]
    by_cases h : fits snapshot adm (m.driverEnd l) (m.receiverEnd l) = true
    · rw [admitLeg_fits m snapshot h, List.append_assoc]
      exact ⟨newTrial m adm.length l :: new, rfl, hsub.cons_cons l⟩
    · rw [admitLeg_skips m snapshot h]
      exact ⟨new, rfl, hsub.cons l⟩

theorem scanQueue_sublist (queue : List LegIx) : ((scanQueue m snapshot queue).map (·.leg)).Sublist queue := by
  obtain ⟨new, heq, hsub⟩ := foldl_admitLeg m snapshot queue []
  rw [scanQueue, heq]
  exact hsub

/-- Each trial is numbered by its place and made for its leg (R83, R84). -/
theorem scanQueue_trial {queue : List LegIx} {i : Nat} {y : Trial} (h : (scanQueue m snapshot queue)[i]? = some y) :
    y = newTrial m i y.leg := by
  have numbered : ∀ (i : Nat) (y : Trial), (scanQueue m snapshot queue)[i]? = some y → y = newTrial m i y.leg := by
    refine List.foldlRecOn (motive := fun adm : List Trial => ∀ i y, adm[i]? = some y → y = newTrial m i y.leg) _ _
      (by simp) fun adm ih l _ i y hy => ?_
    by_cases hfits : fits snapshot adm (m.driverEnd l) (m.receiverEnd l) = true
    · rw [admitLeg_fits m snapshot hfits, List.getElem?_append] at hy
      split at hy
      next => exact ih i y hy
      next hlen =>
        obtain ⟨hi, rfl⟩ := List.getElem?_eq_some_iff.1 hy
        obtain rfl : i = adm.length := by simp at hi; omega
        simp [newTrial]
    · rw [admitLeg_skips m snapshot hfits] at hy
      exact ih i y hy
  exact numbered i y h

theorem mem_scanQueue {queue : List LegIx} {y : Trial} (h : y ∈ scanQueue m snapshot queue) :
    ∃ i, y = newTrial m i y.leg := by
  obtain ⟨i, hi⟩ := List.mem_iff_getElem?.1 h
  exact ⟨i, scanQueue_trial m snapshot hi⟩

theorem scanQueue_numbers_nodup (queue : List LegIx) : ((scanQueue m snapshot queue).map (·.number)).Nodup := by
  have hrange : (scanQueue m snapshot queue).map (·.number) = List.range (scanQueue m snapshot queue).length := by
    refine List.ext_getElem? fun i => ?_
    rw [List.getElem?_map]
    by_cases hi : i < (scanQueue m snapshot queue).length
    · rw [List.getElem?_range hi, List.getElem?_eq_getElem hi]
      exact congrArg some (congrArg Trial.number (scanQueue_trial m snapshot (List.getElem?_eq_getElem hi)))
    · rw [List.getElem?_eq_none (by omega), List.getElem?_eq_none (by simpa using hi)]
      rfl
  rw [hrange]
  exact List.nodup_range

/-- The trials of the legs before a place are those admitted when the scan comes there, and the leg at the place is
admitted exactly if it fits beside them (R88, R90). -/
theorem scanQueue_at {before after : List LegIx} {l : LegIx} (hnodup : (before ++ l :: after).Nodup) :
    (scanQueue m snapshot (before ++ l :: after)).filter (fun y => decide (y.leg ∈ before))
        = scanQueue m snapshot before
      ∧ (l ∈ (scanQueue m snapshot (before ++ l :: after)).map (·.leg)
          ↔ fits snapshot (scanQueue m snapshot before) (m.driverEnd l) (m.receiverEnd l) = true) := by
  obtain ⟨hbefore, hrest, hdisjoint⟩ := List.nodup_append.1 hnodup
  obtain ⟨hl, -⟩ := List.nodup_cons.1 hrest
  obtain ⟨new, heq, hsub⟩ := foldl_admitLeg m snapshot after (admitLeg m snapshot (scanQueue m snapshot before) l)
  have hearly := scanQueue_sublist m snapshot before
  have hsplit : scanQueue m snapshot (before ++ l :: after)
      = admitLeg m snapshot (scanQueue m snapshot before) l ++ new := by
    rw [scanQueue, List.foldl_append, List.foldl_cons]
    exact heq
  have hkept : (scanQueue m snapshot before).filter (fun y => decide (y.leg ∈ before))
      = scanQueue m snapshot before :=
    List.filter_eq_self.2 fun y hy => decide_eq_true (hearly.subset (List.mem_map_of_mem hy))
  have hnew : new.filter (fun y => decide (y.leg ∈ before)) = [] :=
    List.filter_eq_nil_iff.2 fun y hy hmem => hdisjoint _ (of_decide_eq_true hmem) _
      (List.mem_cons_of_mem _ (hsub.subset (List.mem_map_of_mem hy))) rfl
  have hlbefore : l ∉ before := fun hmem => hdisjoint l hmem l List.mem_cons_self rfl
  have hlearly : l ∉ (scanQueue m snapshot before).map (·.leg) := fun hmem => hlbefore (hearly.subset hmem)
  have hlnew : l ∉ new.map (·.leg) := fun hmem => hl (hsub.subset hmem)
  rw [hsplit]
  by_cases hfits : fits snapshot (scanQueue m snapshot before) (m.driverEnd l) (m.receiverEnd l) = true
  · rw [admitLeg_fits m snapshot hfits]
    have hat : [newTrial m (scanQueue m snapshot before).length l].filter (fun y => decide (y.leg ∈ before)) = [] := by
      simp [newTrial, hlbefore]
    refine ⟨by rw [List.filter_append, List.filter_append, hkept, hat, hnew]; simp, ?_⟩
    simp [hfits, newTrial]
  · rw [admitLeg_skips m snapshot hfits]
    refine ⟨by rw [List.filter_append, hkept, hnew, List.append_nil], ?_⟩
    rw [List.map_append, List.mem_append]
    exact ⟨fun hmem => (hmem.elim hlearly hlnew).elim, fun h => absurd h hfits⟩

end

/-! ## The plan end -/

/-- The trials that the plan end of a state admits. -/
def plannedTrials (s : State) : List Trial := scanQueue s.map s.planner.snapshot s.planner.queue

section
variable (s : State)

theorem makePlan_queue :
    (makePlan s).planner.queue
      = s.planner.queue.filter fun l => decide (l ∉ (plannedTrials s).map (·.leg)) := by
  refine List.filter_congr fun l _ => ?_
  rw [Bool.eq_iff_iff]
  simp [plannedTrials]

theorem plannedTrials_held {y : Trial} (h : y ∈ plannedTrials s) : y.state = .held := by
  obtain ⟨i, hy⟩ := mem_scanQueue _ _ h
  rw [hy]
  rfl

theorem heldTrials_makePlan : heldTrials (makePlan s) = plannedTrials s :=
  List.filter_eq_self.2 fun y hy => by simpa using plannedTrials_held s hy

/-- The admitted legs and the legs left in the queue are the legs that were in the queue. -/
theorem plannedLegs_perm (h : s.planner.queue.Nodup) :
    ((makePlan s).planner.queue ++ (plannedTrials s).map (·.leg)).Perm s.planner.queue := by
  have hsub := scanQueue_sublist s.map s.planner.snapshot s.planner.queue
  have hlegs : (s.planner.queue.filter fun l => decide (l ∈ (plannedTrials s).map (·.leg))).Perm
      ((plannedTrials s).map (·.leg)) := by
    refine (List.perm_ext_iff_of_nodup (h.filter _) (hsub.nodup h)).2 fun l => ?_
    rw [List.mem_filter, decide_eq_true_iff]
    exact ⟨fun hl => hl.2, fun hl => ⟨hsub.subset hl, hl⟩⟩
  have hsplit := List.filter_append_perm (fun l => decide (l ∈ (plannedTrials s).map (·.leg))) s.planner.queue
  rw [makePlan_queue]
  simp only [decide_not]
  exact (List.perm_append_comm.trans (hlegs.symm.append_right _)).trans hsplit

end

/-! ## The duties and entries of a trial (R94, R95) -/

section
variable (epoch : Nat) {trials : List Trial} {y : Trial}

/-- The entries of a node's duties, before the duties are numbered. -/
theorem entriesOf_dutiesOf (trials : List Trial) (n : Slot) :
    entriesOf (dutiesOf epoch trials n)
      = ((trials.filter (fun t => t.driver.slot == n)).map (driveDuty epoch)
          ++ (trials.filter (fun t => t.receiver.slot == n)).map listenDuty).flatMap entriesOfDuty := by
  unfold entriesOf dutiesOf
  rw [List.flatMap_map]
  refine Eq.trans ?_ (congrArg (List.flatMap entriesOfDuty) (List.zipIdx_map_fst 0 _))
  rw [List.flatMap_map]
  rfl

theorem driveEntry_mem (h : y ∈ trials) :
    (⟨.drive, y.driver.lane, y.number⟩ : Entry) ∈ entriesOf (dutiesOf epoch trials y.driver.slot) := by
  rw [entriesOf_dutiesOf, List.flatMap_append, List.mem_append]
  refine .inl (List.mem_flatMap.2 ⟨driveDuty epoch y, List.mem_map_of_mem ?_, List.mem_singleton.2 rfl⟩)
  exact List.mem_filter.2 ⟨h, beq_self_eq_true _⟩

theorem expectedEntry_mem (h : y ∈ trials) (hlane : y.receiver.lane ∈ y.listen) :
    (⟨.expected, y.receiver.lane, y.number⟩ : Entry) ∈ entriesOf (dutiesOf epoch trials y.receiver.slot) := by
  rw [entriesOf_dutiesOf, List.flatMap_append, List.mem_append]
  refine .inr (List.mem_flatMap.2 ⟨listenDuty y, List.mem_map_of_mem ?_, ?_⟩)
  · exact List.mem_filter.2 ⟨h, beq_self_eq_true _⟩
  · exact List.mem_map.2 ⟨y.receiver.lane, hlane, by simp [listenDuty]⟩

/-- A node with entries has duties. -/
theorem duties_ne_nil {duties : List Duty} {e : Entry} (h : e ∈ entriesOf duties) : duties ≠ [] := by
  rintro rfl
  cases h

end

end Sys2Proof.Machine
end

section
/-! The account of the legs (R37, R40, R79, R152): the leg list, the counts of the settled, and what a grading or a
settling does to the legs settled, pending and held. -/

namespace Sys2Proof

/-- Adding to one place of a table of numbers adds to their sum. -/
theorem Table.sum_change_add (t : Table Nat n) (i : Fin n) (k : Nat) :
    (t.change i (· + k)).toList.sum = t.toList.sum + k := by
  have hset (a : Nat) : (t.put i a).toList.sum = ((t.toList.take i).sum + a) + (t.toList.drop (i + 1)).sum := by
    have hlen : i.val < t.toList.length := by simp
    rw [Table.put, Vector.toList_set, List.sum_set, if_pos hlen]
  have hself := hset (t.at i)
  rw [Table.put_at_self] at hself
  rw [Table.change, hset, hself]
  omega

end Sys2Proof

namespace Sys2Proof.Machine

/-! ## The leg list -/

theorem linkOfLeg_of_mem {k : LinkIx} {r : LinkRecord} {l : LegIx} (h : l ∈ legsOfLink k r) : linkOfLeg l = k := by
  have hforward : linkOfLeg (forwardLeg k) = k := Fin.ext (by simp [linkOfLeg, forwardLeg])
  have hbackward : linkOfLeg (backwardLeg k) = k := Fin.ext (by simp [linkOfLeg, backwardLeg]; omega)
  unfold legsOfLink at h
  split at h
  · split at h <;> simp only [List.mem_cons, List.not_mem_nil, or_false] at h
    · rw [h, hforward]
    · rw [h, hbackward]
    · rcases h with rfl | rfl
      · exact hforward
      · exact hbackward
  · cases h

theorem legsOfLink_nodup (k : LinkIx) (r : LinkRecord) : (legsOfLink k r).Nodup := by
  have hne : forwardLeg k ≠ backwardLeg k := fun h => by
    have := congrArg Fin.val h
    simp [forwardLeg, backwardLeg] at this
  unfold legsOfLink
  split
  · split <;> simp [hne]
  · exact .nil

/-- No leg stands twice in the leg list (R40). -/
theorem legList_nodup (m : MapStore) : m.legList.Nodup := by
  refine List.nodup_flatMap.2 ⟨fun kr _ => legsOfLink_nodup kr.1 kr.2, ?_⟩
  have hindices : m.links.indexed.Pairwise fun a b => a.1 ≠ b.1 := by
    rw [← List.pairwise_map (f := Prod.fst), Table.indexed_map_fst]
    exact List.nodup_finRange 480
  refine hindices.imp fun hne l hl hl' => ?_
  exact hne ((linkOfLeg_of_mem hl).symm.trans (linkOfLeg_of_mem hl'))

theorem legList_congr {m m' : MapStore} (h : m'.links = m.links) : m'.legList = m.legList := by
  rw [MapStore.legList, h, MapStore.legList]

/-! ## The counts -/

/-- A verdict counted raises the sum of the counts by one (R152). -/
theorem sum_count {rs : Results} {v : Verdict} (h : v ≠ .none) :
    (rs.count v).counts.toList.sum = rs.counts.toList.sum + 1 := by
  obtain ⟨i, hi⟩ : ∃ i, v.countIx = some i := by cases v <;> simp_all [Verdict.countIx]
  simp only [Results.count, hi]
  exact Table.sum_change_add ..

/-- Legs settled UNTESTED one after the other: their count rises by as many, and no other count changes (R69, R152). -/
theorem settleUntested_counts (legs : List LegIx) (rs : Results) :
    (legs.foldl settleUntested rs).counts = rs.counts.change 8 (· + legs.length) := by
  induction legs generalizing rs with
  | nil => exact (Table.put_at_self ..).symm
  | cons l legs ih =>
    have hone : (settleUntested rs l).counts = rs.counts.change 8 (· + 1) := rfl
    rw [List.foldl_cons, ih, hone, Table.change, Table.at_change_self, Table.change, Table.put_put, Table.change,
      List.length_cons, Nat.add_assoc, Nat.add_comm 1]

/-! ## The open legs -/

/-- The legs not settled: those pending and those held. -/
def openLegs (s : State) : List LegIx := s.planner.queue ++ heldLegs s

/-- The legs settled and the open ones are as many as the legs of the map. -/
def Balanced (s : State) : Prop := settledCount s + (openLegs s).length = s.map.legList.length

/-- No leg is held: the queue holds no leg twice, and the settled and it are the legs of the map. -/
structure Tallied (s : State) : Prop where
  nodup : s.planner.queue.Nodup
  count : settledCount s + s.planner.queue.length = s.map.legList.length

/-- The books of a live campaign: no open leg stands twice, and they balance. -/
structure Books (s : State) : Prop where
  nodup : (openLegs s).Nodup
  balanced : Balanced s

section
variable {s t : State}

theorem openLegs_of_none (h : heldTrials s = []) : openLegs s = s.planner.queue := by
  rw [openLegs, heldLegs, h]
  exact List.append_nil _

/-- Legs that change place alone keep the books. -/
theorem Books.of_perm (hlegs : (openLegs t).Perm (openLegs s)) (hsettled : settledCount t = settledCount s)
    (hmap : t.map.legList = s.map.legList) (h : Books s) : Books t where
  nodup := hlegs.nodup_iff.2 h.nodup
  balanced := by
    rw [Balanced, hlegs.length_eq, hsettled, hmap]
    exact h.balanced

/-- A leg that is settled leaves the open ones and is counted. -/
theorem Books.of_settled {l : LegIx} (hlegs : (openLegs s).Perm (l :: openLegs t))
    (hsettled : settledCount t = settledCount s + 1) (hmap : t.map.legList = s.map.legList) (h : Books s) :
    Books t where
  nodup := (hlegs.nodup_iff.1 h.nodup).of_cons
  balanced := by
    have hbalanced : settledCount s + (openLegs s).length = s.map.legList.length := h.balanced
    have hlength := hlegs.length_eq
    rw [List.length_cons] at hlength
    rw [Balanced, hsettled, hmap]
    omega

theorem Books.tallied (h : Books s) (hheld : heldTrials s = []) : Tallied s := by
  obtain ⟨hnodup, hbalanced⟩ := h
  rw [Balanced, openLegs_of_none hheld] at hbalanced
  rw [openLegs_of_none hheld] at hnodup
  exact ⟨hnodup, hbalanced⟩

/-- With no leg held, a queue of the same legs keeps the tally. -/
theorem Books.tallied_of_perm (hlegs : t.planner.queue.Perm (openLegs s)) (hsettled : settledCount t = settledCount s)
    (hmap : t.map.legList = s.map.legList) (h : Books s) : Tallied t where
  nodup := hlegs.nodup_iff.2 h.nodup
  count := by
    rw [hlegs.length_eq, hsettled, hmap]
    exact h.balanced

/-! ## Gradings -/

/-- One trial of a list whose numbers are not repeated, and the others. -/
theorem perm_cons_filter_number {ys : List Trial} (hnumbers : (ys.map (·.number)).Nodup) {y : Trial} (hy : y ∈ ys) :
    ys.Perm (y :: ys.filter fun x => decide (x.number ≠ y.number)) := by
  have hys : ys.Nodup := .of_map _ hnumbers
  refine (List.perm_ext_iff_of_nodup hys (List.nodup_cons.2 ⟨by simp, hys.filter _⟩)).2 fun x => ?_
  rw [List.mem_cons, List.mem_filter, decide_eq_true_iff]
  constructor
  · intro hx
    by_cases hnumber : x.number = y.number
    · exact .inl (List.inj_on_of_nodup_map hnumbers hx hy hnumber)
    · exact .inr ⟨hx, hnumber⟩
  · rintro (rfl | ⟨hx, -⟩)
    · exact hy
    · exact hx

section
variable (y : Trial) (r : LegResult) (s : State)

theorem heldTrials_recordGrading :
    heldTrials (recordGrading y r s) = (heldTrials s).filter fun x => decide (x.number ≠ y.number) := by
  unfold heldTrials
  rw [recordGrading_trials]
  induction s.planner.trials with
  | nil => rfl
  | cons x xs ih =>
    rw [List.map_cons, List.filter_cons, ih]
    by_cases hx : x.state = .held <;> by_cases hnumber : x.number = y.number <;> simp [hx, hnumber]

theorem recordGrading_numbers :
    (recordGrading y r s).planner.trials.map (·.number) = s.planner.trials.map (·.number) := by
  rw [recordGrading_trials, List.map_map]
  refine List.map_congr_left fun x _ => ?_
  dsimp only [Function.comp]
  split <;> rfl

theorem recordGrading_settledCount (h : r.verdict ≠ .none) :
    settledCount (recordGrading y r s) = settledCount s + if r.settled then 1 else 0 := by
  rw [settledCount, recordGrading_results]
  split
  · exact sum_count h
  · rfl

end

/-- A grading settles the leg of its trial or puts it back in the queue (R132, R133). -/
theorem Books.recordGrading {y : Trial} {r : LegResult} (hy : y ∈ heldTrials s)
    (hnumbers : ((heldTrials s).map (·.number)).Nodup) (hverdict : r.verdict ≠ .none) (h : Books s) :
    Books (recordGrading y r s) := by
  have hheld : (heldLegs s).Perm (y.leg :: heldLegs (Machine.recordGrading y r s)) := by
    rw [heldLegs, heldLegs, heldTrials_recordGrading]
    exact (perm_cons_filter_number hnumbers hy).map _
  have hmap : (Machine.recordGrading y r s).map.legList = s.map.legList := by rw [recordGrading_frame]
  have hcount := recordGrading_settledCount y r s hverdict
  have hopen := (hheld.append_left s.planner.queue)
  cases hsettled : r.settled with
  | true =>
    refine h.of_settled (l := y.leg) (hopen.trans ?_) (by simpa [hsettled] using hcount) hmap
    rw [openLegs, recordGrading_queue, hsettled, if_pos rfl, List.append_nil]
    exact List.perm_middle
  | false =>
    refine h.of_perm ((List.Perm.of_eq ?_).trans hopen.symm) (by simpa [hsettled] using hcount) hmap
    rw [openLegs, recordGrading_queue, hsettled, if_neg Bool.false_ne_true, List.append_assoc]
    rfl

end

/-! ## Gradings one after the other -/

/-- What grading trials leaves alone, besides the books. -/
structure GradingKept (s t : State) : Prop where
  map : t.map = s.map
  nodes : t.nodes = s.nodes
  epoch : t.epoch = s.epoch
  entries : t.planner.entries = s.planner.entries
  duties : t.planner.duties = s.planner.duties
  campaign : t.campaign.state = s.campaign.state

theorem GradingKept.refl (s : State) : GradingKept s s := ⟨rfl, rfl, rfl, rfl, rfl, rfl⟩

theorem GradingKept.trans {s u t : State} (h : GradingKept s u) (h' : GradingKept u t) : GradingKept s t where
  map := h'.map.trans h.map
  nodes := h'.nodes.trans h.nodes
  epoch := h'.epoch.trans h.epoch
  entries := h'.entries.trans h.entries
  duties := h'.duties.trans h.duties
  campaign := h'.campaign.trans h.campaign

theorem recordGrading_kept (y : Trial) (r : LegResult) (ps : List Presentation) (s : State) :
    GradingKept s (recordGrading y r (presentAll ps s)) := by
  rw [recordGrading_frame, presentAll_frame]
  exact ⟨rfl, rfl, rfl, rfl, rfl, rfl⟩

/-- An operation grades a trial: findings are presented, and a record with a verdict is written. -/
def Grades (f : State → Trial → State) (s : State) (y : Trial) : Prop :=
  ∃ r ps, r.verdict ≠ .none ∧ f s y = recordGrading y r (presentAll ps s)

theorem gradeNoReport_grades (s : State) (y : Trial) : Grades gradeNoReport s y :=
  ⟨s.noReportOf y.leg, [], nofun, gradeNoReport_eq s y⟩

/-- Trials graded one after the other: they stay HELD no longer, and the books are kept. -/
structure AllGraded (ys : List Trial) (s t : State) : Prop extends GradingKept s t where
  held : heldTrials t = (heldTrials s).filter fun x => decide (x.number ∉ ys.map (·.number))
  numbers : t.planner.trials.map (·.number) = s.planner.trials.map (·.number)
  books : Books s → Books t

theorem AllGraded.nil (s : State) : AllGraded [] s s where
  toGradingKept := .refl s
  held := by simp
  numbers := rfl
  books := id

theorem AllGraded.cons {y : Trial} {ys : List Trial} {s u t : State} (hone : AllGraded [y] s u)
    (h : AllGraded ys u t) : AllGraded (y :: ys) s t where
  toGradingKept := hone.toGradingKept.trans h.toGradingKept
  held := by
    rw [h.held, hone.held, List.filter_filter]
    refine List.filter_congr fun x _ => ?_
    rw [Bool.eq_iff_iff]
    simp [and_comm]
  numbers := h.numbers.trans hone.numbers
  books := h.books ∘ hone.books

section
variable {f : State → Trial → State} {s : State}

theorem Grades.allGraded {y : Trial} (h : Grades f s y) (hy : y ∈ heldTrials s)
    (hnumbers : (s.planner.trials.map (·.number)).Nodup) : AllGraded [y] s (f s y) := by
  obtain ⟨r, ps, hverdict, heq⟩ := h
  have hpresented : (presentAll ps s).planner = s.planner := by rw [presentAll_frame]
  have hheld : heldTrials (presentAll ps s) = heldTrials s := by rw [heldTrials, hpresented, heldTrials]
  rw [heq]
  refine { recordGrading_kept y r ps s with held := ?_, numbers := ?_, books := fun hbooks => ?_ }
  · rw [heldTrials_recordGrading, hheld]
    exact List.filter_congr fun x _ => by simp
  · rw [recordGrading_numbers, hpresented]
  · have hsame : Books (presentAll ps s) := by
      rw [presentAll_frame]
      exact ⟨hbooks.nodup, hbooks.balanced⟩
    refine hsame.recordGrading (hheld ▸ hy) ?_ hverdict
    rw [hheld]
    exact (List.filter_sublist.map _).nodup hnumbers

/-- A list of HELD trials, each of which is graded in its turn whatever was graded before. -/
theorem foldl_allGraded (ys : List Trial) (hys : ∀ y ∈ ys, y ∈ heldTrials s) (hnodup : (ys.map (·.number)).Nodup)
    (hnumbers : (s.planner.trials.map (·.number)).Nodup)
    (hgrades : ∀ u, GradingKept s u → ∀ y ∈ ys, Grades f u y) : AllGraded ys s (ys.foldl f s) := by
  induction ys generalizing s with
  | nil => exact .nil s
  | cons y ys ih =>
    obtain ⟨hnumber, hnodup⟩ := List.nodup_cons.1 hnodup
    have hone := (hgrades s (.refl s) y List.mem_cons_self).allGraded (hys y List.mem_cons_self) hnumbers
    refine hone.cons (ih (fun x hx => ?_) hnodup (hone.numbers ▸ hnumbers) fun u hu x hx => ?_)
    · rw [hone.held, List.mem_filter, decide_eq_true_iff]
      refine ⟨hys x (List.mem_cons_of_mem _ hx), fun hmem => hnumber ?_⟩
      rw [List.map_singleton, List.mem_singleton] at hmem
      exact List.mem_map.2 ⟨x, hx, hmem⟩
    · exact hgrades u (hone.toGradingKept.trans hu) x (List.mem_cons_of_mem _ hx)

end

end Sys2Proof.Machine
end

section
/-! The standing of reports within an epoch (R106 to R112), clause by clause of `ReportLaw`: what a report stores, what
its completion finds for a trial, and which operations keep the law. -/

namespace Sys2Proof.Machine

/-! ## The law, clause by clause -/

section
variable (s : State)

/-- What a node has sent fits its cursor and its entry list, and is of its entries' kinds. -/
def Answered (n : Slot) : Prop :=
  (s.epoch.received.at n).length = (s.nodes.probes.at n).cursor
    ∧ (s.nodes.probes.at n).cursor ≤ (s.planner.entries.at n).length
    ∧ ∀ (i : Nat) (e : Entry) (v : EntryValue), (s.planner.entries.at n)[i]? = some e →
        (s.epoch.received.at n)[i]? = some v → (e.kind = .drive ↔ ∃ st, v = .drive st)

/-- The nodes of a trial have its duties and its entries. -/
def Planned (y : Trial) : Prop :=
  s.planner.duties.at y.driver.slot ≠ [] ∧ s.planner.duties.at y.receiver.slot ≠ []
    ∧ (⟨.drive, y.driver.lane, y.number⟩ : Entry) ∈ s.planner.entries.at y.driver.slot
    ∧ (⟨.expected, y.receiver.lane, y.number⟩ : Entry) ∈ s.planner.entries.at y.receiver.slot

/-- The nodes of a trial have fetched and are not released. -/
def Taking (y : Trial) : Prop :=
  ∀ n ∈ [y.driver.slot, y.receiver.slot],
    (s.nodes.probes.at n).fetchComplete = true ∧ s.epoch.released.at n = false

/-- A node of a trial has entries left to send. -/
def Owing (y : Trial) : Prop :=
  ∃ n ∈ [y.driver.slot, y.receiver.slot], (s.nodes.probes.at n).cursor < (s.planner.entries.at n).length

/-- `ReportLaw`, clause by clause. -/
structure Reports : Prop where
  answered : s.epoch.state ≠ .none → ∀ n, Answered s n
  fresh : s.epoch.state = .planning ∨ s.epoch.state = .announce → ∀ n,
    (s.nodes.probes.at n).cursor = 0 ∧ s.epoch.released.at n = false
  planned : ∀ y ∈ heldTrials s, Planned s y
  measured : s.epoch.state.measured → ∀ y ∈ heldTrials s, Taking s y ∧ Owing s y

end

section
variable {s t : State}

theorem reports_iff : Reports s ↔ ReportLaw s :=
  ⟨fun ⟨answered, fresh, planned, measured⟩ => ⟨answered, fresh, planned, measured⟩,
    fun ⟨answered, fresh, planned, measured⟩ => ⟨answered, fresh, planned, measured⟩⟩

/-- With no epoch and no trial there is nothing to report. -/
theorem reports_of_none (he : t.epoch.state = .none) (ht : heldTrials t = []) : Reports t where
  answered h := absurd he h
  fresh h := by simp [he] at h
  planned y hy := by simp [ht] at hy
  measured h := by simp [he, EpochState.measured] at h

/-- From `s` to `t` the plan and what was sent stand, and no trial is HELD anew. -/
structure PlanKept (s t : State) : Prop where
  entries : t.planner.entries = s.planner.entries
  duties : t.planner.duties = s.planner.duties
  received : t.epoch.received = s.epoch.received
  cursor : ∀ n, (t.nodes.probes.at n).cursor = (s.nodes.probes.at n).cursor
  held : ∀ y ∈ heldTrials t, y ∈ heldTrials s

theorem PlanKept.answered {n : Slot} (k : PlanKept s t) (h : Answered s n) : Answered t n := by
  unfold Answered
  rw [k.entries, k.received, k.cursor]
  exact h

theorem PlanKept.planned {y : Trial} (k : PlanKept s t) (h : Planned s y) : Planned t y := by
  unfold Planned
  rw [k.entries, k.duties]
  exact h

theorem PlanKept.owing {y : Trial} (k : PlanKept s t) (h : Owing s y) : Owing t y := by
  obtain ⟨n, hn, hlt⟩ := h
  exact ⟨n, hn, by rwa [k.entries, k.cursor]⟩

/-- Where the plan stands, a state past the announce owes the nodes of its trials alone. -/
theorem Reports.past_announce (k : PlanKept s t) (hs : s.epoch.state ≠ .none)
    (ht : t.epoch.state ≠ .planning ∧ t.epoch.state ≠ .announce)
    (hmeasured : t.epoch.state.measured → ∀ y ∈ heldTrials t, Taking t y ∧ Owing t y) (h : Reports s) :
    Reports t where
  answered _ n := k.answered (h.answered hs n)
  fresh he := absurd he (not_or.2 ht)
  planned y hy := k.planned (h.planned y (k.held y hy))
  measured := hmeasured

/-- What keeps the plan and every node's standing keeps the law, but for a step back into the announce or into the
phases. -/
theorem Reports.of_kept (k : PlanKept s t) (hfetched : ∀ n,
      (t.nodes.probes.at n).fetchComplete = (s.nodes.probes.at n).fetchComplete)
    (hreleased : t.epoch.released = s.epoch.released) (hnone : t.epoch.state ≠ .none → s.epoch.state ≠ .none)
    (hfresh : t.epoch.state = .planning ∨ t.epoch.state = .announce →
      s.epoch.state = .planning ∨ s.epoch.state = .announce)
    (hmeasured : t.epoch.state.measured → s.epoch.state.measured) (h : Reports s) : Reports t where
  answered he n := k.answered (h.answered (hnone he) n)
  fresh he n := by
    rw [k.cursor, hreleased]
    exact h.fresh (hfresh he) n
  planned y hy := k.planned (h.planned y (k.held y hy))
  measured he y hy := by
    obtain ⟨htaking, howing⟩ := h.measured (hmeasured he) y (k.held y hy)
    refine ⟨fun n hn => ?_, k.owing howing⟩
    rw [hfetched, hreleased]
    exact htaking n hn

theorem measured_ne_none (h : s.epoch.state.measured) : s.epoch.state ≠ .none := by
  rintro he
  rw [he] at h
  exact h

theorem measured_ne_planning (h : s.epoch.state.measured) : s.epoch.state ≠ .planning := by
  rintro he
  rw [he] at h
  exact h

theorem measured_ne_announce (h : s.epoch.state.measured) : s.epoch.state ≠ .announce := by
  rintro he
  rw [he] at h
  exact h

/-! ## The standing of a trial's nodes -/

/-- A node of a trial past the announce is COMPLETE at the end of its entry list and OWED below it (R106). -/
theorem standing_of_taking {y : Trial} {n : Slot} (hplanned : Planned s y) (htaking : Taking s y)
    (ha : s.epoch.state ≠ .announce) (hn : n ∈ [y.driver.slot, y.receiver.slot]) :
    ((s.nodes.probes.at n).cursor < (s.planner.entries.at n).length → standing s n = some .owed)
      ∧ ((s.nodes.probes.at n).cursor = (s.planner.entries.at n).length → standing s n = some .complete) := by
  have hduties : s.planner.duties.at n ≠ [] := by
    simp only [List.mem_cons, List.not_mem_nil, or_false] at hn
    rcases hn with rfl | rfl
    · exact hplanned.1
    · exact hplanned.2.1
  obtain ⟨hfetched, hreleased⟩ := htaking n hn
  exact standing_reporting hduties ha hreleased hfetched

theorem cursor_of_complete {n : Slot} (h : standing s n = some .complete) :
    (s.nodes.probes.at n).cursor = (s.planner.entries.at n).length := by
  by_contra hne
  simp only [standing, if_neg hne] at h
  split_ifs at h <;> cases h

/-- With no node OWED, no trial past the announce is HELD: none would be left behind at the close (R112). -/
theorem heldTrials_of_noneOwed (he : s.epoch.state.measured) (h : Reports s) (hnone : noneOwed s = true) :
    heldTrials s = [] := by
  rw [List.eq_nil_iff_forall_not_mem]
  intro y hy
  obtain ⟨htaking, n, hn, hlt⟩ := h.measured he y hy
  have hstanding := standing_of_taking (h.planned y hy) htaking (measured_ne_announce he) hn
  exact (noneOwed_iff s).1 hnone n (hstanding.1 hlt)

/-! ## The entries of a trial found -/

/-- A node that has sent its whole list has answered each entry, by the entry's kind. -/
theorem Answered.found {n : Slot} {e : Entry} (h : Answered s n)
    (hcursor : (s.nodes.probes.at n).cursor = (s.planner.entries.at n).length) (he : e ∈ s.planner.entries.at n) :
    ∃ v, (e, v) ∈ answered s n ∧ (e.kind = .drive ↔ ∃ st, v = .drive st) := by
  obtain ⟨hlength, -, hkinds⟩ := h
  obtain ⟨i, hi⟩ := List.mem_iff_getElem?.1 he
  have hlt : i < (s.epoch.received.at n).length := by
    obtain ⟨hlt, -⟩ := List.getElem?_eq_some_iff.1 hi
    omega
  refine ⟨_, List.mem_iff_getElem?.2 ⟨i, ?_⟩, hkinds i e _ hi (List.getElem?_eq_getElem hlt)⟩
  exact List.getElem?_zip_eq_some.2 ⟨hi, List.getElem?_eq_getElem hlt⟩

/-- What one element of a list gives, some element gives first. -/
theorem findSome?_of_mem {f : α → Option β} {a : α} {as : List α} (ha : a ∈ as) (hf : f a ≠ none) :
    ∃ b, as.findSome? f = some b :=
  Option.ne_none_iff_exists'.1 fun hnone => hf (List.findSome?_eq_none_iff.1 hnone a ha)

/-- A trial whose nodes have sent their whole lists has its entries (R111). -/
theorem entries_found {y : Trial} (hplanned : Planned s y) (hanswered : ∀ n, Answered s n)
    (hcursor : ∀ n ∈ [y.driver.slot, y.receiver.slot],
      (s.nodes.probes.at n).cursor = (s.planner.entries.at n).length) :
    ∃ st x, driverEntry s y = some st ∧ expectedEntry s y = some x := by
  obtain ⟨-, -, hdrive, hexpected⟩ := hplanned
  obtain ⟨v, hv, hkind⟩ := (hanswered y.driver.slot).found (hcursor _ (by simp)) hdrive
  obtain ⟨w, hw, hkind'⟩ := (hanswered y.receiver.slot).found (hcursor _ (by simp)) hexpected
  obtain ⟨st, hst⟩ := findSome?_of_mem (f := driveOf y.number) hv (by
    obtain ⟨st, rfl⟩ := hkind.1 rfl
    simp [driveOf])
  obtain ⟨x, hx⟩ := findSome?_of_mem (f := readingOf (floorAt s y.receiver.slot) y.number .expected) hw (by
    cases w with
    | drive st => exact absurd (hkind'.2 ⟨st, rfl⟩) nofun
    | listen q d e => simp [readingOf])
  exact ⟨st, x, hst, hx⟩

end

/-! ## The run of a report -/

/-- An entry as its bytes give it is cut by the kind of the entry it answers (R108). -/
theorem cutEntries_kinds {entries : List Entry} {bytes : List Byte} {run : List RawEntry}
    (h : cutEntries entries bytes = some run) :
    run.length ≤ entries.length ∧ ∀ (i : Nat) e r, entries[i]? = some e → run[i]? = some r →
      (e.kind = .drive ↔ ∃ lane st, r = .drive lane st) := by
  induction entries generalizing bytes run with
  | nil =>
    cases bytes with
    | nil =>
      obtain rfl := Option.some.inj h
      simp
    | cons b bs => cases h
  | cons e es ih =>
    have push {r : RawEntry} {rest : List Byte} (hr : e.kind = .drive ↔ ∃ lane st, r = .drive lane st)
        (hcut : (cutEntries es rest).map (r :: ·) = some run) :
        run.length ≤ (e :: es).length ∧ ∀ (i : Nat) e' r', (e :: es)[i]? = some e' → run[i]? = some r' →
          (e'.kind = .drive ↔ ∃ lane st, r' = .drive lane st) := by
      obtain ⟨run', hrun, rfl⟩ := Option.map_eq_some_iff.1 hcut
      obtain ⟨hlength, hkinds⟩ := ih hrun
      refine ⟨by simpa using hlength, fun i e' r' he' hr' => ?_⟩
      cases i with
      | zero =>
        obtain rfl := Option.some.inj he'
        obtain rfl := Option.some.inj hr'
        exact hr
      | succ i => exact hkinds i e' r' he' hr'
    cases bytes with
    | nil =>
      obtain rfl := Option.some.inj h
      simp
    | cons b bs =>
      unfold cutEntries at h
      split at h
      next hkind => exact push (by simp [hkind]) h
      next => cases h
      next hkind => exact push (by simpa using hkind) h
      next => cases h

/-- The values of a report's run fit the rest of the entry list, each of its entry's kind (R108, R109). -/
theorem walk_values {entries : List Entry} {first : Nat} {bytes : List Byte} {run : List RawEntry}
    {values : List EntryValue} (hwalk : walk entries first bytes = some run) (hvalues : runValues run = some values) :
    first + values.length ≤ entries.length ∧ ∀ (i : Nat) e v, entries[first + i]? = some e → values[i]? = some v →
      (e.kind = .drive ↔ ∃ st, v = .drive st) := by
  have hcut : cutEntries (entries.drop first) bytes = some run ∧ run ≠ [] := by
    unfold walk at hwalk
    split at hwalk
    next hrun =>
      obtain rfl := Option.some.inj hwalk
      exact ⟨hrun, List.cons_ne_nil _ _⟩
    next => cases hwalk
  obtain ⟨hrun, hne⟩ := hcut
  obtain ⟨hfits, hkinds⟩ := cutEntries_kinds hrun
  have hmap := (runValues_some run values).1 hvalues
  have hlength : run.length = values.length := by simpa using congrArg List.length hmap
  have hpos := List.length_pos_iff.2 hne
  rw [List.length_drop] at hfits
  refine ⟨by omega, fun i e v he hv => ?_⟩
  obtain ⟨r, hr, hrv⟩ : ∃ r, run[i]? = some r ∧ r.value = some v := by
    have hat := congrArg (fun l => l[i]?) hmap
    simp only [List.getElem?_map, hv, Option.map_some] at hat
    exact Option.map_eq_some_iff.1 hat
  rw [hkinds i e r (by rwa [List.getElem?_drop]) hr]
  cases r with
  | drive lane code =>
    obtain ⟨st, -, rfl⟩ := Option.map_eq_some_iff.1 hrv
    simp
  | listen lane q d er =>
    obtain rfl := Option.some.inj hrv
    simp

section
variable (n : Slot) (values : List EntryValue) (s : State)

theorem storeRun_cursor (m : Slot) :
    ((storeRun n values s).nodes.probes.at m).cursor
      = if m = n then (s.nodes.probes.at n).cursor + values.length else (s.nodes.probes.at m).cursor := by
  rw [storeRun_frame]
  dsimp only
  rw [Table.at_put]
  split <;> rfl

theorem storeRun_fetched (m : Slot) :
    ((storeRun n values s).nodes.probes.at m).fetchComplete = (s.nodes.probes.at m).fetchComplete := by
  rw [storeRun_frame]
  dsimp only
  rw [Table.at_put]
  split
  next h => rw [h]
  next => rfl

theorem storeRun_received (m : Slot) :
    (storeRun n values s).epoch.received.at m
      = if m = n then s.epoch.received.at n ++ values else s.epoch.received.at m := by
  rw [storeRun_frame]
  exact Table.at_put ..

/-- A run stored leaves what each node has sent answered (R109). -/
theorem storeRun_answered {bytes : List Byte} {run : List RawEntry}
    (hwalk : walk (s.planner.entries.at n) (s.nodes.probes.at n).cursor bytes = some run)
    (hvalues : runValues run = some values) (h : ∀ m, Answered s m) (m : Slot) :
    Answered (storeRun n values s) m := by
  have hentries : (storeRun n values s).planner.entries = s.planner.entries := rfl
  unfold Answered
  rw [storeRun_cursor, storeRun_received, hentries]
  by_cases hm : m = n
  · subst hm
    obtain ⟨hlength, -, hkinds⟩ := h m
    obtain ⟨hfits, hnew⟩ := walk_values hwalk hvalues
    simp only [if_true]
    refine ⟨by rw [List.length_append, hlength], hfits, fun i e v he hv => ?_⟩
    rw [List.getElem?_append] at hv
    split at hv
    next => exact hkinds i e v he hv
    next hi =>
      refine hnew (i - (s.epoch.received.at m).length) e v ?_ hv
      rwa [← hlength, Nat.add_sub_cancel' (Nat.not_lt.1 hi)]
  · simp only [if_neg hm]
    exact h m

end

end Sys2Proof.Machine
end

section
/-! No leg is lost (R59, R106, R109, R111, R112, R182): every move keeps the account of the legs of a live campaign,
and a campaign that ends in DONE has settled them all. -/

namespace Sys2Proof.Machine

/-- The laws of O58 together; the books balance in a live campaign, and in a DONE one too where `ended` is asked. -/
structure Ledger (ended : Prop) (s : State) : Prop where
  running : RunningLaw s
  empty : EmptyLaw s
  legs : (openLegs s).Nodup
  numbers : (s.planner.trials.map (·.number)).Nodup
  balanced : s.campaign.state.live = true ∨ (ended ∧ s.campaign.state = .done) → Balanced s
  reports : Reports s

section
variable {ended : Prop} {s t : State}

/-! ## From the laws to the ledger and back -/

theorem balanced_iff : Balanced s ↔
    settledCount s + s.planner.queue.length + (heldTrials s).length = s.map.legList.length := by
  rw [Balanced, openLegs, List.length_append, heldLegs, List.length_map, Nat.add_assoc]

theorem heldTrials_of_nil (h : s.planner.trials = []) : heldTrials s = [] := by
  rw [heldTrials, h]
  rfl

theorem Ledger.heldTrials_nil (h : Ledger ended s) (hc : s.campaign.state ≠ .running) : heldTrials s = [] :=
  heldTrials_of_nil (h.empty.2 (.inl (h.running.epoch_none hc)))

theorem Ledger.books (h : Ledger ended s) (hlive : s.campaign.state.live = true) : Books s :=
  ⟨h.legs, h.balanced (.inl hlive)⟩

/-- In an epoch the campaign is live, and the books balance. -/
theorem Ledger.books_open (h : Ledger ended s) (he : s.epoch.state ≠ .none) : Books s :=
  h.books (by rw [h.running.state_running he]; rfl)

/-- In WAITING and PAUSED no leg is held: the books are a tally of the queue. -/
theorem Ledger.tallied (h : Ledger ended s) (hlive : s.campaign.state.live = true)
    (hc : s.campaign.state ≠ .running) : Tallied s :=
  (h.books hlive).tallied (h.heldTrials_nil hc)

/-! ## The states between epochs -/

/-- With no epoch and no trial, the books are those of the queue. -/
theorem ledger_closed (hc : t.campaign.state ≠ .running) (he : t.epoch.state = .none) (ht : t.planner.trials = [])
    (hempty : t.campaign.state.live = false → t.planner.queue = []) (hnodup : t.planner.queue.Nodup)
    (hcount : t.campaign.state.live = true ∨ (ended ∧ t.campaign.state = .done) → Tallied t) : Ledger ended t where
  running := runningLaw_ended hc he
  empty := ⟨fun hlive => ⟨hempty hlive, ht⟩, fun _ => ht⟩
  legs := by rwa [openLegs_of_none (heldTrials_of_nil ht)]
  numbers := by
    rw [ht]
    exact .nil
  balanced hlive := by
    rw [Balanced, openLegs_of_none (heldTrials_of_nil ht)]
    exact (hcount hlive).count
  reports := reports_of_none he (heldTrials_of_nil ht)

/-- In IDLE and ABORTED, and with nothing in the queue, there is nothing to account for. -/
theorem ledger_idle (hlive : t.campaign.state.live = false) (hdone : t.campaign.state ≠ .done)
    (he : t.epoch.state = .none) (hp : t.planner.queue = [] ∧ t.planner.trials = []) : Ledger ended t := by
  refine ledger_closed (state_ne_running hlive) he hp.2 (fun _ => hp.1) (hp.1 ▸ .nil) ?_
  rintro (h | ⟨-, h⟩)
  · rw [hlive] at h
    cases h
  · exact absurd h hdone

theorem ledger_enterPaused (h : Tallied s) : Ledger ended (enterPaused s) :=
  ledger_closed (by simp) rfl rfl (fun hlive => by cases hlive) h.nodup
    fun _ => ⟨h.nodup, h.count⟩

theorem ledger_enterWaiting (h : Tallied s) : Ledger ended (enterWaiting s) :=
  ledger_closed (by simp) rfl rfl (fun hlive => by cases hlive) h.nodup
    fun _ => ⟨h.nodup, h.count⟩

theorem ledger_enterDone (h : Tallied s) (hq : s.planner.queue = []) : Ledger ended (enterDone s) :=
  ledger_closed (by simp) rfl rfl (fun _ => hq) h.nodup fun _ => ⟨h.nodup, h.count⟩

/-- A plan build starts in a RUNNING campaign on the queue as it stands (R85). -/
theorem ledger_startPlanBuild (hc : s.campaign.state = .running) (h : Tallied s) : Ledger ended (startPlanBuild s) := by
  have hheld : heldTrials (startPlanBuild s) = [] := rfl
  have hcursor (n : Slot) : ((startPlanBuild s).nodes.probes.at n).cursor = 0 := by
    rw [startPlanBuild_frame]
    simp [NodeRecord.freshEpoch]
  have hreceived (n : Slot) : (startPlanBuild s).epoch.received.at n = [] := Table.at_fill ..
  have hlegs : (openLegs (startPlanBuild s)).Nodup := by
    rw [openLegs_of_none hheld]
    exact h.nodup
  refine ⟨runningLaw_open hc (by simp), ⟨fun hlive => ?_, fun _ => rfl⟩, hlegs, .nil,
    fun _ => ?_, ⟨fun _ n => ?_, fun _ n => ⟨hcursor n, Table.at_fill ..⟩, by simp [hheld], by simp [hheld]⟩⟩
  · simp [hc, CampaignState.live] at hlive
  · rw [Balanced, openLegs_of_none hheld]
    exact h.count
  · rw [Answered, hreceived, hcursor]
    exact ⟨rfl, Nat.zero_le _, by simp⟩

theorem ledger_closeEpoch (normal : Bool) (hc : s.campaign.state = .running) (h : Tallied s) :
    Ledger ended (closeEpoch normal s) := by
  have hmarked : Tallied (markClosed normal s) := ⟨h.nodup, h.count⟩
  rw [closeEpoch_eq]
  rcases decideAfterClose_cases (markClosed normal s) with ⟨_, e⟩ | ⟨_, hq, _, e⟩ | ⟨_, _, e⟩ <;> rw [e]
  · exact ledger_enterPaused hmarked
  · exact ledger_enterDone hmarked hq
  · exact ledger_startPlanBuild hc hmarked

/-! ## The states of an epoch past its plan build -/

theorem ledger_opened (hc : t.campaign.state = .running) (hn : t.epoch.state ≠ .none) (hp : t.epoch.state ≠ .planning)
    (hbooks : Books t) (hnumbers : (t.planner.trials.map (·.number)).Nodup) (hreports : Reports t) :
    Ledger ended t where
  running := runningLaw_open hc hn
  empty := ⟨fun hlive => by simp [hc, CampaignState.live] at hlive, fun he => absurd he (not_or.2 ⟨hn, hp⟩)⟩
  legs := hbooks.nodup
  numbers := hnumbers
  balanced _ := hbooks.balanced
  reports := hreports

theorem PlanKept.refl (s : State) : PlanKept s s := ⟨rfl, rfl, rfl, fun _ => rfl, fun _ => id⟩

/-- The epoch goes on to a state past the announce, with what was sent and released as it was. -/
theorem Ledger.goesOn {f : Epoch → Epoch} (he : s.epoch.state ≠ .none)
    (hf : (f s.epoch).state ∉ [EpochState.none, .planning, .announce])
    (hmeasured : (f s.epoch).state.measured → s.epoch.state.measured)
    (hreceived : (f s.epoch).received = s.epoch.received) (hreleased : (f s.epoch).released = s.epoch.released)
    (h : Ledger ended s) : Ledger ended (s.onEpoch f) := by
  simp only [List.mem_cons, List.not_mem_nil, or_false, not_or] at hf
  obtain ⟨hn, hp, ha⟩ := hf
  have hbooks := h.books_open he
  refine ledger_opened (h.running.state_running he) hn hp ⟨hbooks.nodup, hbooks.balanced⟩ h.numbers ?_
  exact h.reports.of_kept { PlanKept.refl s with received := hreceived } (fun _ => rfl) hreleased (fun _ => he)
    (fun hfresh => (hfresh.elim hp ha).elim) hmeasured

/-- A void ends the phases and keeps the legs held (R116). -/
theorem ledger_void (cause : VoidCause) (hc : s.campaign.state = .running) (he : s.epoch.state ≠ .none)
    (hbooks : Books s) (hnumbers : (s.planner.trials.map (·.number)).Nodup) (hreports : Reports s) :
    Ledger ended (enterVoid cause s) := by
  have hvoid := enterVoid_epoch s cause
  rw [enterVoid_frame] at hvoid ⊢
  refine ledger_opened hc (by simp) (by simp) ⟨hbooks.nodup, hbooks.balanced⟩ hnumbers ?_
  exact hreports.of_kept { PlanKept.refl s with } (fun _ => rfl) rfl (fun _ => he) (by simp)
    (by simp [EpochState.measured])

theorem Ledger.void (cause : VoidCause) (he : s.epoch.state ≠ .none) (h : Ledger ended s) :
    Ledger ended (enterVoid cause s) :=
  ledger_void cause (h.running.state_running he) he (h.books_open he) h.numbers h.reports

/-! ## The plan end -/

/-- The plan of an empty trial table has every admitted leg held, and its nodes have its duties and entries. -/
theorem Ledger.makePlan (he : s.epoch.state = .planning) (h : Ledger ended s) :
    Books (makePlan s) ∧ ((makePlan s).planner.trials.map (·.number)).Nodup ∧ Reports (makePlan s) := by
  have hopen : s.epoch.state ≠ .none := by simp [he]
  have hheld : heldTrials s = [] := heldTrials_of_nil (h.empty.2 (.inr he))
  have hbooks := h.books_open hopen
  have hlegs : (openLegs (Machine.makePlan s)).Perm (openLegs s) := by
    rw [openLegs_of_none hheld, openLegs, heldLegs, heldTrials_makePlan]
    exact plannedLegs_perm s (hbooks.tallied hheld).nodup
  refine ⟨hbooks.of_perm hlegs rfl rfl, scanQueue_numbers_nodup .., fun _ n => ?_, h.reports.fresh, fun y hy => ?_, ?_⟩
  · obtain ⟨hlength, -, -⟩ := h.reports.answered hopen n
    obtain ⟨hcursor, -⟩ := h.reports.fresh (.inl he) n
    have hreceived : s.epoch.received.at n = [] := List.length_eq_zero_iff.1 (hlength.trans hcursor)
    exact ⟨hlength, hcursor.trans_le (Nat.zero_le _), fun i e v _ hv => by simp [Machine.makePlan, hreceived] at hv⟩
  · rw [heldTrials_makePlan] at hy
    obtain ⟨i, hmade⟩ := mem_scanQueue _ _ hy
    have hlane : y.receiver.lane ∈ y.listen := by
      rw [hmade]
      exact (mem_listenSet _ _).2 (.inr (.inl rfl))
    have hdrive := driveEntry_mem s.epoch.number hy
    have hexpected := expectedEntry_mem s.epoch.number hy hlane
    have hduties (n : Slot) : (Machine.makePlan s).planner.duties.at n
        = dutiesOf s.epoch.number (plannedTrials s) n := Table.at_tabulate ..
    have hentries (n : Slot) : (Machine.makePlan s).planner.entries.at n
        = entriesOf (dutiesOf s.epoch.number (plannedTrials s) n) := Table.at_tabulate ..
    rw [Planned, hduties, hduties, hentries, hentries]
    exact ⟨duties_ne_nil hdrive, duties_ne_nil hexpected, hdrive, hexpected⟩
  · have hsame : (Machine.makePlan s).epoch.state = .planning := he
    simp [hsame, EpochState.measured]

theorem Ledger.decidePlan (he : s.epoch.state = .planning) (h : Ledger ended s) :
    Ledger ended (decidePlan (Machine.makePlan s)) := by
  obtain ⟨hbooks, hnumbers, hreports⟩ := h.makePlan he
  have hopen : s.epoch.state ≠ .none := by simp [he]
  have hc := h.running.state_running hopen
  rcases decidePlan_cases (Machine.makePlan s) with ⟨_, e⟩ | ⟨_, hnil, e⟩ | ⟨_, _, _, e⟩ | ⟨_, _, _, e⟩ <;> rw [e]
  · exact ledger_void .line hc hopen hbooks hnumbers hreports
  · have hmade := hbooks.tallied (heldTrials_of_nil hnil)
    have hback : Tallied (giveNumberBack (Machine.makePlan s)) := ⟨hmade.nodup, hmade.count⟩
    rcases emptyPlan_cases (Machine.makePlan s) with ⟨hq, e⟩ | ⟨_, _, e⟩ | ⟨_, _, e⟩ <;> rw [e]
    · exact ledger_enterDone hback hq
    · exact ledger_enterPaused hback
    · exact ledger_enterWaiting hback
  · refine ledger_enterPaused (Books.tallied_of_perm (s := Machine.makePlan s) ?_ rfl rfl hbooks)
    rw [openLegs, heldLegs, heldTrials_makePlan]
    exact List.perm_append_comm
  · refine ledger_opened hc (by simp [beginAnnounce]) (by simp [beginAnnounce]) ⟨hbooks.nodup, hbooks.balanced⟩ hnumbers
      ?_
    exact hreports.of_kept { PlanKept.refl (Machine.makePlan s) with } (fun _ => rfl) rfl (fun _ => hopen)
      (fun _ => .inl he) (by simp [beginAnnounce, EpochState.measured])

/-! ## The announce end -/

theorem withdraw_books (h : Books s) : Books (withdraw s) := by
  obtain ⟨hresults, -⟩ := withdraw_leaves s
  have hmap := (withdraw_cycleKept s).map
  refine h.of_perm ?_ (by rw [settledCount, hresults, settledCount]) (by rw [hmap])
  have hsplit : ((heldTrials s).filter (unfetched s.nodes) ++ (heldTrials s).filter fun y => !unfetched s.nodes y).Perm
      (heldTrials s) := List.filter_append_perm _ _
  have hlegs := hsplit.map (·.leg)
  rw [List.map_append] at hlegs
  rw [openLegs, heldLegs, heldTrials_withdraw, withdraw_planner]
  dsimp only
  rw [List.append_assoc]
  refine List.perm_append_comm_assoc _ _ _ |>.trans ?_
  exact hlegs.append_left s.planner.queue

theorem withdraw_numbers : (withdraw s).planner.trials.map (·.number) = s.planner.trials.map (·.number) := by
  rw [withdraw_planner]
  dsimp only
  rw [List.map_map]
  refine List.map_congr_left fun y _ => ?_
  dsimp only [Function.comp]
  split <;> rfl

theorem withdraw_planKept (s : State) : PlanKept s (withdraw s) where
  entries := by rw [withdraw_planner]
  duties := by rw [withdraw_planner]
  received := by rw [withdraw_frame]
  cursor n := by
    rw [withdraw_probe]
    split <;> rfl
  held y hy := by
    rw [heldTrials_withdraw] at hy
    exact (List.mem_filter.1 hy).1

/-- The nodes of a trial that stays HELD have fetched, are not released and have sent nothing of their lists (R102). -/
theorem withdraw_kept {y : Trial} (he : s.epoch.state = .announce) (h : Reports s) (hy : y ∈ heldTrials (withdraw s)) :
    Taking (withdraw s) y ∧ Owing (withdraw s) y := by
  have hkept := withdraw_planKept s
  rw [heldTrials_withdraw, List.mem_filter, Bool.not_eq_true', Bool.eq_false_iff, Ne, unfetched_iff, not_or] at hy
  obtain ⟨hheld, hdriver, hreceiver⟩ := hy
  obtain ⟨-, -, hdrive, -⟩ := h.planned y hheld
  refine ⟨fun n hn => ?_, y.driver.slot, by simp, ?_⟩
  · have hfetched : (s.nodes.probes.at n).fetchComplete = true := by
      simp only [List.mem_cons, List.not_mem_nil, or_false] at hn
      rcases hn with rfl | rfl
      · simpa using hdriver
      · simpa using hreceiver
    have hin : notFetched s n = false := by simp [notFetched, hfetched]
    obtain ⟨-, hreleased⟩ := h.fresh (.inr he) n
    rw [withdraw_probe, withdraw_released, hin, hreleased]
    exact ⟨hfetched, rfl⟩
  · obtain ⟨hcursor, -⟩ := h.fresh (.inr he) y.driver.slot
    rw [hkept.cursor, hkept.entries, hcursor]
    exact List.length_pos_of_mem hdrive

theorem Ledger.afterWithdrawal (he : s.epoch.state = .announce) (h : Ledger ended s) :
    Ledger ended (afterWithdrawal (withdraw s)) := by
  have hopen : s.epoch.state ≠ .none := by simp [he]
  obtain ⟨-, hcampaign, -, -, -, hepoch⟩ := withdraw_leaves s
  have hstate : (withdraw s).epoch.state = .announce := by rw [hepoch, he]
  have hc : (withdraw s).campaign.state = .running := hcampaign ▸ h.running.state_running hopen
  have hbooks := withdraw_books (h.books_open hopen)
  have hnumbers : ((withdraw s).planner.trials.map (·.number)).Nodup := by
    rw [withdraw_numbers]
    exact h.numbers
  have hkept := withdraw_planKept s
  unfold Machine.afterWithdrawal
  split
  next hnil => exact ledger_closeEpoch false hc (hbooks.tallied (by simpa using hnil))
  next =>
    split
    · rw [enterVoid_frame]
      refine ledger_opened hc (by simp) (by simp) ⟨hbooks.nodup, hbooks.balanced⟩ hnumbers ?_
      exact h.reports.past_announce { hkept with } hopen (by simp) (by simp [EpochState.measured])
    · rw [beginPhase1_frame]
      refine ledger_opened hc (by simp) (by simp) ⟨hbooks.nodup, hbooks.balanced⟩ hnumbers ?_
      exact h.reports.past_announce { hkept with } hopen (by simp) fun _ y hy => withdraw_kept he h.reports hy

/-! ## The report -/

/-- A run stored leaves the nodes answered and the trials' nodes taking part, while they may owe nothing more. -/
theorem Ledger.storeRun {n : Slot} {bytes : List Byte} {run : List RawEntry} {values : List EntryValue}
    (hwalk : walk (s.planner.entries.at n) (s.nodes.probes.at n).cursor bytes = some run)
    (hvalues : runValues run = some values) (he : s.epoch.state.measured) (h : Ledger ended s) :
    (∀ m, Answered (storeRun n values s) m)
      ∧ ∀ y ∈ heldTrials s, Planned (storeRun n values s) y ∧ Taking (storeRun n values s) y := by
  refine ⟨storeRun_answered n values s hwalk hvalues (h.reports.answered (measured_ne_none he)), fun y hy => ?_⟩
  refine ⟨h.reports.planned y hy, fun m hm => ?_⟩
  rw [storeRun_fetched]
  exact (h.reports.measured he y hy).1 m hm

/-- A run that does not end the node's list leaves its trials owing. -/
theorem Ledger.storeRun_owing {n : Slot} {values : List EntryValue} (he : s.epoch.state.measured)
    (hanswered : Answered (Machine.storeRun n values s) n)
    (hmore : (s.nodes.probes.at n).cursor + values.length ≠ (s.planner.entries.at n).length)
    (h : Ledger ended s) : ∀ y ∈ heldTrials s, Owing (Machine.storeRun n values s) y := by
  intro y hy
  obtain ⟨m, hm, hlt⟩ := (h.reports.measured he y hy).2
  refine ⟨m, hm, ?_⟩
  rw [storeRun_cursor]
  split
  next hmn =>
    subst hmn
    obtain ⟨-, hle, -⟩ := hanswered
    rw [storeRun_cursor, if_pos rfl] at hle
    exact lt_of_le_of_ne hle hmore
  next => exact hlt

theorem completeReport_start (n : Slot) (s : State) :
    PlanKept s (trackReference n (clearMisses n s))
      ∧ ∀ m, ((trackReference n (clearMisses n s)).nodes.probes.at m).fetchComplete
          = (s.nodes.probes.at m).fetchComplete := by
  have hprobe (m : Slot) : (trackReference n (clearMisses n s)).nodes.probes.at m
      = if m = n then { s.nodes.probes.at n with misses := 0 } else s.nodes.probes.at m := by
    rw [trackReference_frame, clearMisses_frame]
    exact Table.at_put ..
  refine ⟨⟨rfl, rfl, rfl, fun m => ?_, fun _ => id⟩, fun m => ?_⟩ <;> rw [hprobe] <;> split
  next hm => rw [hm]
  next => rfl
  next hm => rw [hm]
  next => rfl

theorem GradingKept.answered {m : Slot} (k : GradingKept s t) (h : Answered s m) : Answered t m := by
  unfold Answered
  rw [k.entries, k.epoch, k.nodes]
  exact h

theorem GradingKept.planned {y : Trial} (k : GradingKept s t) (h : Planned s y) : Planned t y := by
  unfold Planned
  rw [k.entries, k.duties]
  exact h

theorem GradingKept.taking {y : Trial} (k : GradingKept s t) (h : Taking s y) : Taking t y := by
  unfold Taking
  rw [k.epoch, k.nodes]
  exact h

theorem GradingKept.owing {y : Trial} (k : GradingKept s t) (h : Owing s y) : Owing t y := by
  unfold Owing
  rw [k.entries, k.nodes]
  exact h

/-- The nodes of a ready trial have sent their whole entry lists. -/
theorem cursor_of_ready {y : Trial} (h : y ∈ readyTrials s) :
    ∀ m ∈ [y.driver.slot, y.receiver.slot], (s.nodes.probes.at m).cursor = (s.planner.entries.at m).length := by
  obtain ⟨-, hdriver, hreceiver⟩ := (mem_readyTrials s y).1 h
  intro m hm
  simp only [List.mem_cons, List.not_mem_nil, or_false] at hm
  rcases hm with rfl | rfl
  · exact cursor_of_complete hdriver
  · exact cursor_of_complete hreceiver

/-- A HELD trial that is not ready owes entries (R106). -/
theorem owing_of_not_ready {y : Trial} (he : s.epoch.state.measured) (hy : y ∈ heldTrials s)
    (hanswered : ∀ m, Answered s m) (hplanned : Planned s y) (htaking : Taking s y) (h : y ∉ readyTrials s) :
    Owing s y := by
  by_contra howing
  have hcomplete : ∀ m ∈ [y.driver.slot, y.receiver.slot], standing s m = some .complete := by
    intro m hm
    obtain ⟨-, hle, -⟩ := hanswered m
    have hnot : ¬(s.nodes.probes.at m).cursor < (s.planner.entries.at m).length := fun hlt => howing ⟨m, hm, hlt⟩
    exact (standing_of_taking hplanned htaking (measured_ne_announce he) hm).2 (by omega)
  exact h ((mem_readyTrials s y).2 ⟨hy, hcomplete _ (by simp), hcomplete _ (by simp)⟩)

/-- The ready trials are graded, one after the other (R111). -/
theorem readyTrials_graded (hnumbers : (s.planner.trials.map (·.number)).Nodup) (hanswered : ∀ m, Answered s m)
    (hplanned : ∀ y ∈ heldTrials s, Planned s y) :
    AllGraded (readyTrials s) s ((readyTrials s).foldl gradeTrial s) := by
  have hheld (y : Trial) (hy : y ∈ readyTrials s) : y ∈ heldTrials s := ((mem_readyTrials s y).1 hy).1
  refine foldl_allGraded _ hheld ?_ hnumbers fun x hx y hy => ?_
  · exact ((List.filter_sublist.trans List.filter_sublist).map _).nodup hnumbers
  · have hcursor := cursor_of_ready hy
    rw [← hx.nodes, ← hx.entries] at hcursor
    obtain ⟨st, r, hst, hr⟩ := entries_found (hx.planned (hplanned y (hheld y hy)))
      (fun m => hx.answered (hanswered m)) hcursor
    exact gradeTrial_found hst hr

theorem completeReport_epoch (n : Slot) (s : State) : (completeReport n s).epoch = s.epoch := by
  refine List.foldlRecOn (motive := fun t : State => t.epoch = s.epoch) _ _ rfl fun t ht y _ => ?_
  rw [gradeTrial_frame]
  exact ht

/-- With the ready trials graded, the others still owe: the law of reports holds again. -/
theorem ledger_graded (he : s.epoch.state.measured) (hc : s.campaign.state = .running) (hbooks : Books s)
    (hnumbers : (s.planner.trials.map (·.number)).Nodup) (hanswered : ∀ m, Answered s m)
    (hheld : ∀ y ∈ heldTrials s, Planned s y ∧ Taking s y) :
    Ledger ended ((readyTrials s).foldl gradeTrial s) := by
  have hgraded := readyTrials_graded hnumbers hanswered fun y hy => (hheld y hy).1
  have hkept := hgraded.toGradingKept
  have hstate := congrArg Epoch.state hkept.epoch
  have hstill (y : Trial) (hy : y ∈ heldTrials ((readyTrials s).foldl gradeTrial s)) :
      y ∈ heldTrials s ∧ y ∉ readyTrials s := by
    rw [hgraded.held, List.mem_filter, decide_eq_true_iff] at hy
    exact ⟨hy.1, fun hready => hy.2 (List.mem_map_of_mem hready)⟩
  refine ledger_opened (hkept.campaign.trans hc) (hstate ▸ measured_ne_none he) ?_ (hgraded.books hbooks) ?_ ?_
  · exact hstate ▸ measured_ne_planning he
  · rw [hgraded.numbers]
    exact hnumbers
  · refine ⟨fun _ m => hkept.answered (hanswered m), fun hfresh => ?_, fun y hy => ?_, fun _ y hy => ?_⟩
    · rw [hstate] at hfresh
      exact absurd hfresh (not_or.2 ⟨measured_ne_planning he, measured_ne_announce he⟩)
    · exact hkept.planned (hheld y (hstill y hy).1).1
    · obtain ⟨hmem, hready⟩ := hstill y hy
      obtain ⟨hplanned, htaking⟩ := hheld y hmem
      exact ⟨hkept.taking htaking, hkept.owing (owing_of_not_ready he hmem hanswered hplanned htaking hready)⟩

/-- The end of a node's list grades the trials it makes ready (R111). -/
theorem ledger_completeReport (n : Slot) (he : s.epoch.state.measured) (hc : s.campaign.state = .running)
    (hbooks : Books s) (hnumbers : (s.planner.trials.map (·.number)).Nodup) (hanswered : ∀ m, Answered s m)
    (hheld : ∀ y ∈ heldTrials s, Planned s y ∧ Taking s y) : Ledger ended (completeReport n s) := by
  obtain ⟨hstart, hfetched⟩ := completeReport_start n s
  refine ledger_graded (s := trackReference n (clearMisses n s)) he hc ⟨hbooks.nodup, hbooks.balanced⟩ hnumbers
    (fun m => hstart.answered (hanswered m)) fun y hy => ?_
  obtain ⟨hplanned, htaking⟩ := hheld y hy
  refine ⟨hstart.planned hplanned, fun m hm => ?_⟩
  rw [hfetched]
  exact htaking m hm

theorem Ledger.acceptRun {n : Slot} {bytes : List Byte} {run : List RawEntry} {values : List EntryValue}
    (hwalk : walk (s.planner.entries.at n) (s.nodes.probes.at n).cursor bytes = some run)
    (hvalues : runValues run = some values) (he : s.epoch.state.measured) (h : Ledger ended s) :
    Ledger ended (acceptRun n values s) := by
  obtain ⟨hanswered, hheld⟩ := h.storeRun hwalk hvalues he
  have hopen := measured_ne_none he
  have hc := h.running.state_running hopen
  have hbooks := h.books_open hopen
  have hstored : Books (Machine.storeRun n values s) := ⟨hbooks.nodup, hbooks.balanced⟩
  unfold Machine.acceptRun
  split
  next =>
    have hgraded : Ledger ended (completeReport n (Machine.storeRun n values s)) :=
      ledger_completeReport n he hc hstored h.numbers hanswered hheld
    unfold closeIfDone
    split
    next hnone =>
      have hmeasured : (completeReport n (Machine.storeRun n values s)).epoch.state.measured := by
        rw [completeReport_epoch]
        exact he
      have hrunning := hgraded.running.state_running (measured_ne_none hmeasured)
      have hnil := heldTrials_of_noneOwed hmeasured hgraded.reports hnone
      exact ledger_closeEpoch true hrunning ((hgraded.books_open (measured_ne_none hmeasured)).tallied hnil)
    next => exact hgraded
  next hmore =>
    refine ledger_opened hc hopen (measured_ne_planning he) hstored h.numbers ?_
    refine ⟨fun _ => hanswered, fun hfresh => ?_, fun y hy => (hheld y hy).1, fun _ y hy => ?_⟩
    · exact absurd hfresh (not_or.2 ⟨measured_ne_planning he, measured_ne_announce he⟩)
    · exact ⟨(hheld y hy).2, h.storeRun_owing he (hanswered n) hmore y hy⟩

/-! ## The ends of COLLECTING, GRACE and VOID -/

theorem Ledger.graceEnd (he : s.epoch.state = .grace) (h : Ledger ended s) :
    Ledger ended (closeEpoch true (settleGrace s)) := by
  have hopen : s.epoch.state ≠ .none := by simp [he]
  obtain ⟨-, -, -, hstate, -, hresults, hplanner⟩ := settleGrace_leaves (s := s)
  have hgraded : AllGraded (heldTrials s) s ((heldTrials s).foldl gradeNoReport s) :=
    foldl_allGraded _ (fun _ => id) ((List.filter_sublist.map _).nodup h.numbers) h.numbers
      fun u _ y _ => gradeNoReport_grades u y
  have hmap : (settleGrace s).map = s.map := (settleGrace_cycleKept s).map
  have hbooks := hgraded.books (h.books_open hopen)
  have hsettled : Books (settleGrace s) := by
    refine hbooks.of_perm (.of_eq ?_) ?_ (by rw [hmap, hgraded.map])
    · rw [openLegs, heldLegs, heldTrials, hplanner]
      rfl
    · rw [settledCount, hresults, settledCount]
  have htallied := hsettled.tallied (heldTrials_settleGrace s)
  exact ledger_closeEpoch true (hstate.trans (h.running.state_running hopen)) htallied

/-- The held legs go back to the head of the queue: the queue is every open leg (R118). -/
theorem Books.settleVoid (h : Books s) : Tallied (settleVoid s) :=
  Books.tallied_of_perm (s := s) List.perm_append_comm rfl rfl h

theorem Ledger.voidSettle (he : s.epoch.state = .void) (h : Ledger ended s) :
    Ledger ended (decideAfterSettle (settleVoid s)) := by
  have hopen : s.epoch.state ≠ .none := by simp [he]
  have hsettled := (h.books_open hopen).settleVoid
  rcases decideAfterSettle_cases (Machine.settleVoid s) with ⟨_, e⟩ | ⟨_, _, e⟩ <;> rw [e]
  · exact ledger_enterPaused hsettled
  · exact ledger_startPlanBuild (h.running.state_running hopen) hsettled

/-! ## The other moves -/

/-- Where the accounts' parts stand, the standing of the reports alone is owed. -/
theorem Ledger.congr (h : Ledger ended s) (hmap : t.map.legList = s.map.legList)
    (hcampaign : t.campaign.state = s.campaign.state) (hplanner : t.planner = s.planner)
    (hepoch : t.epoch.state = s.epoch.state) (hresults : t.results = s.results) (hreports : Reports t) :
    Ledger ended t := by
  have hlegs : openLegs t = openLegs s := by rw [openLegs, heldLegs, heldTrials, hplanner]; rfl
  refine ⟨?_, ?_, hlegs ▸ h.legs, hplanner ▸ h.numbers, fun hlive => ?_, hreports⟩
  · rw [RunningLaw, hcampaign, hepoch]
    exact h.running
  · rw [EmptyLaw, hcampaign, hepoch, hplanner]
    exact h.empty
  · rw [hcampaign] at hlive
    rw [Balanced, hlegs, hmap, settledCount, hresults]
    exact h.balanced hlive

/-- A change of what the ledger does not read. -/
theorem Ledger.unread (h : Ledger ended s) (hmap : t.map = s.map) (hcampaign : t.campaign.state = s.campaign.state)
    (hplanner : t.planner = s.planner) (hnodes : t.nodes = s.nodes) (hepoch : t.epoch.state = s.epoch.state)
    (hreceived : t.epoch.received = s.epoch.received) (hreleased : t.epoch.released = s.epoch.released)
    (hresults : t.results = s.results) : Ledger ended t := by
  refine h.congr (congrArg _ hmap) hcampaign hplanner hepoch hresults (h.reports.of_kept ?_ ?_ hreleased ?_ ?_ ?_)
  · refine ⟨by rw [hplanner], by rw [hplanner], hreceived, fun n => by rw [hnodes], ?_⟩
    rw [heldTrials, hplanner, heldTrials]
    exact fun _ => id
  · exact fun n => by rw [hnodes]
  all_goals
    rw [hepoch]
    exact id

theorem Aside.reports (ha : Aside s t) (h : Reports s) : Reports t := by
  have hheld : heldTrials t = heldTrials s := by rw [heldTrials, ha.planner, heldTrials]
  refine h.of_kept ⟨?_, ?_, ha.received, ha.cursor, ?_⟩ ha.fetched ha.released ?_ ?_ ?_
  · rw [ha.planner]
  · rw [ha.planner]
  · rw [hheld]
    exact fun _ => id
  all_goals
    rw [ha.epoch]
    exact id

theorem Ledger.aside (ha : Aside s t) (h : Ledger ended s) : Ledger ended t :=
  h.congr (legList_congr ha.links) ha.campaign ha.planner ha.epoch ha.results (ha.reports h.reports)

/-- A FETCH completed in ANNOUNCE leaves cursors and entries alone, and no node owes a report yet (R101). -/
theorem Ledger.completeFetch (n : Slot) (he : s.epoch.state = .announce) (h : Ledger ended s) :
    Ledger ended (completeFetch n s) := by
  have hcursor (m : Slot) : ((Machine.completeFetch n s).nodes.probes.at m).cursor = (s.nodes.probes.at m).cursor := by
    have hprobe : (Machine.completeFetch n s).nodes.probes.at m
        = if m = n then { s.nodes.probes.at n with fetchComplete := true } else s.nodes.probes.at m :=
      Table.at_put ..
    rw [hprobe]
    split
    next hm => rw [hm]
    next => rfl
  have hkept : PlanKept s (Machine.completeFetch n s) := ⟨rfl, rfl, rfl, hcursor, fun _ => id⟩
  refine h.congr rfl rfl rfl rfl rfl ⟨fun hopen m => hkept.answered (h.reports.answered hopen m), fun hfresh m => ?_,
    fun y hy => hkept.planned (h.reports.planned y hy), fun hmeasured => ?_⟩
  · rw [hcursor]
    exact h.reports.fresh hfresh m
  · exact absurd he (measured_ne_announce (s := s) hmeasured)

/-- The end of the wait timer settles the whole queue (R69). -/
theorem Ledger.expire (hc : s.campaign.state = .waiting) (h : Ledger ended s) : Ledger ended (waitExpires s) := by
  have htallied := h.tallied (by rw [hc]; rfl) (by simp [hc])
  rw [waitExpires, if_pos hc]
  refine ledger_enterDone ⟨.nil, ?_⟩ rfl
  have hcounts := settleUntested_counts s.planner.queue s.results
  have hcount := htallied.count
  rw [settledCount] at hcount ⊢
  simp only [State.onPlanner_results, State.onResults_results, hcounts, Table.sum_change_add]
  exact hcount

theorem Ledger.mapEdit (hlive : s.campaign.state.live = false) (h : RunningLaw s ∧ EmptyLaw s) :
    Ledger ended (mapEdit s) := by
  obtain ⟨hrunning, hempty⟩ := h
  have hnone := hrunning.epoch_none (state_ne_running hlive)
  have hplan := hempty.1 hlive
  by_cases hidle : s.campaign.state = .idle
  · rw [mapEdit_idle hidle]
    exact ledger_idle hlive (by simp [hidle]) hnone hplan
  · rw [mapEdit_ended (ended_of_settled hlive hidle)]
    exact ledger_idle rfl nofun hnone hplan

/-- A START tallies the whole leg list against no settled leg (R59). -/
theorem ledger_startCampaign (s : State) : Ledger ended (startCampaign s) := by
  refine ledger_startPlanBuild rfl ⟨legList_nodup s.map, ?_⟩
  exact Nat.zero_add _

theorem Ledger.campaignRuns {f : Campaign → Campaign} (hf : (f s.campaign).state = .running)
    (hlive : s.campaign.state.live = true) (hc : s.campaign.state ≠ .running) (h : Ledger ended s) :
    Ledger ended (startPlanBuild (showLamps (s.onCampaign f))) := by
  have htallied := h.tallied hlive hc
  exact ledger_startPlanBuild hf ⟨htallied.nodup, htallied.count⟩

theorem Ledger.beginPhase2 (he : s.epoch.state = .gap ∨ s.epoch.state = .phase1) (h : Ledger ended s) :
    Ledger ended (beginPhase2 s) := by
  have hmeasured : s.epoch.state.measured := by rcases he with he | he <;> rw [he] <;> trivial
  unfold Machine.beginPhase2 beginPhase
  exact h.goesOn (measured_ne_none hmeasured) (by simp) (fun _ => hmeasured) rfl rfl

theorem Ledger.strobesLow (he : s.epoch.state ∉ [EpochState.none, .planning, .announce]) (h : Ledger ended s) :
    Ledger ended (strobesLow s) :=
  h.goesOn (fun hn => he (by simp [hn])) he id rfl rfl

theorem Ledger.move (hm : Move s t) (h : Ledger ended s) : Ledger ended t := by
  cases hm with
  | aside ha => exact h.aside ha
  | params | hold => exact h.unread rfl rfl rfl rfl rfl rfl rfl rfl
  | blink hc =>
    rw [blinkLamp, if_pos hc]
    exact h.unread rfl rfl rfl rfl rfl rfl rfl rfl
  | present p =>
    rw [present_frame]
    exact h.unread rfl rfl rfl rfl rfl rfl rfl rfl
  | reset | restart => exact ledger_idle rfl nofun rfl ⟨rfl, rfl⟩
  | write start records hlive => exact Ledger.mapEdit (s := s.onMap _) hlive ⟨h.running, h.empty⟩
  | start => exact ledger_startCampaign s
  | pause hc => exact ledger_enterPaused (h.tallied (by rw [hc]; rfl) (by simp [hc]))
  | resume hc => exact h.campaignRuns rfl (by rw [hc]; rfl) (by simp [hc])
  | abort => exact ledger_idle rfl nofun rfl ⟨rfl, rfl⟩
  | wake hc => exact h.campaignRuns rfl (by rw [hc]; rfl) (by simp [hc])
  | expire hc => exact h.expire hc
  | void cause he => exact h.void cause he
  | plan he => exact h.decidePlan he
  | fetch n he => exact h.completeFetch n he
  | announceEnd he => exact h.afterWithdrawal he
  | phase1End he =>
    have hlow := h.strobesLow (by simp [he])
    rw [phase1Ends, if_pos he]
    split
    · exact hlow.beginPhase2 (.inr he)
    · exact hlow.goesOn (by simp [Machine.strobesLow, he]) (by simp)
        (fun _ => by simp [Machine.strobesLow, he, EpochState.measured]) rfl rfl
  | gapEnd he =>
    rw [gapEnds, if_pos he]
    exact h.beginPhase2 (.inl he)
  | phase2End he =>
    rw [phase2Ends, if_pos he]
    exact (h.strobesLow (by simp [he])).goesOn (by simp [Machine.strobesLow, he]) (by simp)
      (fun _ => by simp [Machine.strobesLow, he, EpochState.measured]) rfl rfl
  | deadline he =>
    rw [deadlineRunsOut, if_pos he]
    exact h.goesOn (by simp [he]) (by simp) (fun _ => by rw [he]; trivial) rfl rfl
  | report hwalk hvalues he =>
    exact h.acceptRun hwalk hvalues (by rcases he with he | he <;> rw [he] <;> trivial)
  | graceEnd he => exact h.graceEnd he
  | voidSettle he => exact h.voidSettle he

/-! ## The obligation -/

theorem ledger_of_laws (hended : ended → s.campaign.state ≠ .done) (hrunning : RunningLaw s) (hempty : EmptyLaw s)
    (hqueue : QueueLaw s) (haccount : AccountLaw s) (hreports : ReportLaw s) : Ledger ended s := by
  obtain ⟨hlegs, hnumbers⟩ := hqueue
  refine ⟨hrunning, hempty, hlegs, hnumbers, ?_, reports_iff.2 hreports⟩
  rintro (hlive | ⟨he, hdone⟩)
  · exact balanced_iff.2 (haccount hlive)
  · exact absurd hdone (hended he)

end

/-- Settles O58: every move keeps the ledger, read with and without the account of a DONE campaign. -/
theorem noLegIsLost : Obligations.NoLegIsLost := by
  rintro s t ⟨hrunning, hempty, hqueue, haccount, hreports⟩ hstep
  have hmoves := Moves.of_step hstep
  refine ⟨?_, fun hlive hdone => ?_⟩
  · have h : Ledger False t := hmoves.keeps (P := Ledger False) Ledger.move
      (ledger_of_laws False.elim hrunning hempty hqueue haccount hreports)
    exact ⟨h.running, h.empty, ⟨h.legs, h.numbers⟩, fun hlive => balanced_iff.1 (h.balanced (.inl hlive)),
      reports_iff.1 h.reports⟩
  · have hnot : s.campaign.state ≠ .done := by
      rintro hs
      rw [hs] at hlive
      cases hlive
    have h : Ledger True t := hmoves.keeps (P := Ledger True) Ledger.move
      (ledger_of_laws (fun _ => hnot) hrunning hempty hqueue haccount hreports)
    obtain ⟨hqueue, htrials⟩ := h.empty.1 (by rw [hdone]; rfl)
    have hbalanced := h.balanced (.inr ⟨trivial, hdone⟩)
    rwa [Balanced, openLegs_of_none (heldTrials_of_nil htrials), hqueue] at hbalanced

end Sys2Proof.Machine
end

section
/-! The plan end (R60, R83, R88 to R93): what it admits, and where it goes when it does not proceed. -/

namespace Sys2Proof.Machine

section
variable {s : State}

theorem exec_planEnd (hheld : s.held = none) (he : s.epoch.state = .planning) :
    exec .planEnd s = .next (decidePlan (makePlan s)) := by
  have hrow : exec .planEnd s = .next (planEnds s) := congrArg _ (unlessHeld_of_none hheld)
  rw [hrow, planEnds, if_pos he]

/-! ## The four ways on -/

theorem decidePlan_void (h : s.epoch.buildVoid = true) : decidePlan s = enterVoid .line s := if_pos h

section
variable (h : s.epoch.buildVoid = false)
include h

theorem decidePlan_empty (hnil : s.planner.trials = []) : decidePlan s = emptyPlan s := by
  simp [decidePlan, h, hnil]

theorem decidePlan_paused (hsome : s.planner.trials ≠ []) (hp : s.campaign.pausePending = true) :
    decidePlan s = pausedPlan s := by
  simp [decidePlan, h, hsome, hp]

theorem decidePlan_announce (hsome : s.planner.trials ≠ []) (hp : s.campaign.pausePending = false) :
    decidePlan s = beginAnnounce s := by
  simp [decidePlan, h, hsome, hp]

end

theorem emptyPlan_done (hq : s.planner.queue = []) : emptyPlan s = enterDone (giveNumberBack s) := by
  simp [emptyPlan, hq]

theorem emptyPlan_paused (hq : s.planner.queue ≠ []) (hp : s.campaign.pausePending = true) :
    emptyPlan s = enterPaused (giveNumberBack s) := by
  simp [emptyPlan, hq, hp]

theorem emptyPlan_waiting (hq : s.planner.queue ≠ []) (hp : s.campaign.pausePending = false) :
    emptyPlan s = enterWaiting (giveNumberBack s) := by
  simp [emptyPlan, hq, hp]

/-- An empty plan leaves no epoch, its number given back and the queue as it was (R87, R92). -/
theorem emptyPlan_leaves (s : State) :
    (emptyPlan s).epoch.state = .none ∧ (emptyPlan s).epoch.number = s.epoch.before
      ∧ (emptyPlan s).planner = { Planner.afterReset with queue := s.planner.queue }
      ∧ emptyPlan s = { s with
          planner := (emptyPlan s).planner, campaign := (emptyPlan s).campaign, epoch := (emptyPlan s).epoch
          timebase := (emptyPlan s).timebase } := by
  rcases emptyPlan_cases s with ⟨_, e⟩ | ⟨_, _, e⟩ | ⟨_, _, e⟩ <;> rw [e] <;> exact ⟨rfl, rfl, rfl, rfl⟩

end

/-! ## What is admitted -/

/-- A lane is clear of an admitted trial: none of the four conditions of R89 holds, lane by lane. -/
theorem blocks_eq_false {y : Trial} {d r : LaneEnd} :
    blocks y d r = false ↔
      ¬(d.slot = y.driver.slot ∧ d.lane.val ≤ y.driver.lane.val + 1 ∧ y.driver.lane.val ≤ d.lane.val + 1)
        ∧ ¬(r.slot = y.receiver.slot ∧ r.lane.val ≤ y.receiver.lane.val + 2 ∧ y.receiver.lane.val ≤ r.lane.val + 2)
        ∧ ¬(d.slot = y.receiver.slot ∧ d.lane.val ≤ y.receiver.lane.val + 1 ∧ y.receiver.lane.val ≤ d.lane.val + 1)
        ∧ ¬(r.slot = y.driver.slot ∧ r.lane.val ≤ y.driver.lane.val + 1 ∧ y.driver.lane.val ≤ r.lane.val + 1) := by
  rw [Bool.eq_false_iff, Ne, blocks_eq_true, not_or, not_or, not_or, apart_le, apart_le, apart_le, apart_le]

theorem drivesAt_eq (adm : List Trial) (n : Slot) :
    drivesAt adm n = (adm.filter fun y => decide (y.driver.slot = n)).length := by
  rw [drivesAt, List.countP_eq_length_filter]
  rfl

theorem listensAt_eq (adm : List Trial) (n : Slot) :
    listensAt adm n = ((adm.filter fun y => decide (y.receiver.slot = n)).map fun y => y.listen.length).sum := rfl

/-- Settles O29: the plan proceeds to ANNOUNCE, and a leg is admitted as it fits beside those before it. -/
theorem planEndAdmits : Obligations.PlanEndAdmits := by
  intro s hheld he hvoid hp hnodup hsome
  have hrun : exec .planEnd s = .next (beginAnnounce (makePlan s)) := by
    rw [exec_planEnd hheld he, decidePlan_announce (s := makePlan s) hvoid hsome hp]
  refine ⟨_, hrun, rfl, rfl, rfl, scanQueue_sublist _ _ _, makePlan_queue s, fun i y hy => ?trials,
    fun before l after hqueue => ?admitted⟩
  case trials =>
    have hmade := scanQueue_trial _ _ hy
    generalize y.leg = l at hmade ⊢
    subst hmade
    exact ⟨rfl, rfl, rfl, rfl, rfl⟩
  case admitted =>
    intro ys d r
    rw [hqueue] at hnodup
    obtain ⟨hys, hl⟩ := scanQueue_at s.map s.planner.snapshot hnodup
    have hplanned : (beginAnnounce (makePlan s)).planner.trials
        = scanQueue s.map s.planner.snapshot (before ++ l :: after) := congrArg _ hqueue
    have hearly : ys = scanQueue s.map s.planner.snapshot before := by
      rw [← hys, ← hplanned]
    rw [hplanned, hl, ← hearly, fits_eq_true, listensAt_eq, drivesAt_eq]
    simp only [blocks_eq_false]
    rfl

/-- Settles O31: a pause, an empty plan and a voided build, each by the way it takes. -/
theorem planEndOtherwise : Obligations.PlanEndOtherwise := by
  intro s hheld hrunning he trials rest
  have hrest : (makePlan s).planner.queue = rest := makePlan_queue s
  refine ⟨_, exec_planEnd hheld he, ?frame, fun hvoid => ?rail, fun hvoid hsome hp => ?paused,
    fun hvoid hnil => ?empty, fun hvoid => ?void⟩
  case frame =>
    rcases decidePlan_cases (makePlan s) with ⟨_, e⟩ | ⟨_, _, e⟩ | ⟨_, _, _, e⟩ | ⟨_, _, _, e⟩ <;> rw [e]
    · rw [enterVoid_line]
      rfl
    · obtain ⟨-, -, -, hframe⟩ := emptyPlan_leaves (makePlan s)
      rw [hframe]
      rfl
    · rw [pausedPlan, enterPaused_frame]
      rfl
    · rfl
  case rail =>
    rcases decidePlan_cases (makePlan s) with ⟨hv, _⟩ | ⟨_, _, e⟩ | ⟨_, _, _, e⟩ | ⟨_, _, _, e⟩
    · exact absurd (hvoid.symm.trans hv) Bool.false_ne_true
    · obtain ⟨-, -, -, hframe⟩ := emptyPlan_leaves (makePlan s)
      rw [e, hframe]
      rfl
    · rw [e]
      rfl
    · rw [e]
      rfl
  case paused =>
    rw [decidePlan_paused (s := makePlan s) hvoid hsome hp, ← hrest]
    exact ⟨rfl, rfl, rfl, rfl, rfl, rfl⟩
  case empty =>
    have hqueue : (makePlan s).planner.queue = s.planner.queue := by
      rw [hrest]
      exact List.filter_eq_self.2 fun l _ => by simp [hnil]
    obtain ⟨hnone, hnumber, hplanner, -⟩ := emptyPlan_leaves (makePlan s)
    rw [hqueue] at hplanner
    rw [decidePlan_empty (s := makePlan s) hvoid hnil]
    refine ⟨hnone, hnumber, hplanner, fun hq => ?_, fun hq hp => ?_, fun hq hp => ?_⟩ <;> rw [← hqueue] at hq
    · rw [emptyPlan_done hq, enterDone_frame]
      exact ⟨rfl, rfl⟩
    · rw [emptyPlan_paused hq hp]
      exact ⟨rfl, rfl⟩
    · rw [emptyPlan_waiting hq hp]
      exact ⟨rfl, rfl⟩
  case void =>
    rw [decidePlan_void (s := makePlan s) hvoid, enterVoid_line, ← hrest]
    exact ⟨rfl, rfl, rfl, rfl, rfl, rfl, rfl⟩

end Sys2Proof.Machine
end

section
/-! The ends of WAITING and of a void settle (R61, R69, R70, R81, R118, R151, R152). -/

namespace Sys2Proof.Machine

/-! ## The wait timer runs out -/

/-- A leg settled UNTESTED: its record is (R151), and no other record changes. -/
theorem settleUntested_record (rs : Results) (l l' : LegIx) :
    (settleUntested rs l).records.at l' = if l' = l then (rs.records.at l).untested else rs.records.at l' :=
  Table.at_put ..

/-- Legs settled UNTESTED one after the other, none of them twice. -/
theorem settleUntested_records {legs : List LegIx} (hnodup : legs.Nodup) (rs : Results) (l : LegIx) :
    (legs.foldl settleUntested rs).records.at l
      = if l ∈ legs then (rs.records.at l).untested else rs.records.at l := by
  induction legs generalizing rs with
  | nil => rfl
  | cons l' legs ih =>
    obtain ⟨hl', hnodup⟩ := List.nodup_cons.1 hnodup
    rw [List.foldl_cons, ih hnodup, settleUntested_record]
    by_cases h : l = l'
    · subst h
      simp [hl']
    · simp [h]

theorem count_le_settledCount (s : State) (i : Fin 9) : s.results.counts.at i ≤ settledCount s :=
  List.le_sum_of_mem (by simp [Table.at])

/-- With fewer legs settled PASS than the map has, the campaign is not GOOD (R70). -/
theorem allGood_false {s : State} (h : s.results.counts.at 0 < s.map.legList.length) : allGood s = false := by
  simp [allGood, h.ne]

/-- The state in which the wait timer's end enters DONE: every pending leg UNTESTED, the queue empty (R69). -/
def waitSettled (s : State) : State :=
  (s.onResults fun rs => s.planner.queue.foldl settleUntested rs).onPlanner fun p => { p with queue := [] }

theorem exec_waitExpiry {s : State} (hheld : s.held = none) (hc : s.campaign.state = .waiting) :
    exec .waitExpiry s = .next (enterDone (waitSettled s)) := by
  have hrow : exec .waitExpiry s = .next (waitExpires s) := congrArg _ (unlessHeld_of_none hheld)
  rw [hrow, waitExpires, if_pos hc]
  rfl

/-- Settles O28: the records and counts of the legs settled, and DONE entered with a leg short of PASS. -/
theorem waitExpirySettles : Obligations.WaitExpirySettles := by
  intro s hheld hc hsome hnodup hcount
  have hcounts : (waitSettled s).results.counts = s.results.counts.change 8 (· + s.planner.queue.length) :=
    settleUntested_counts s.planner.queue s.results
  have hother (i : Fin 9) (hi : i ≠ 8) : (waitSettled s).results.counts.at i = s.results.counts.at i := by
    rw [hcounts, Table.at_change, if_neg hi]
  have hbad : allGood (waitSettled s) = false := by
    have hpass := count_le_settledCount s 0
    have hpending := List.length_pos_iff.2 hsome
    refine allGood_false ((hother 0 (by decide)).trans_lt ?_)
    exact hcount ▸ (by omega : s.results.counts.at 0 < settledCount s + s.planner.queue.length)
  refine ⟨_, exec_waitExpiry hheld hc, ?_⟩
  rw [enterDone_frame, hbad]
  refine ⟨rfl, rfl, rfl, rfl, rfl, fun l hl => ?_, fun l hl => ?_, ?_, hother, rfl⟩
  · exact (settleUntested_records hnodup s.results l).trans (if_pos hl)
  · exact (settleUntested_records hnodup s.results l).trans (if_neg hl)
  · exact (congrArg (Table.at · 8) hcounts).trans (Table.at_change_self ..)

/-! ## The void settle ends -/

theorem exec_voidSettleEnd {s : State} (hheld : s.held = none) (he : s.epoch.state = .void) :
    exec .voidSettleEnd s = .next (decideAfterSettle (settleVoid s)) := by
  have hrow : exec .voidSettleEnd s = .next (voidSettles s) := congrArg _ (unlessHeld_of_none hheld)
  rw [hrow, voidSettles, if_pos he]

/-- Settles O39: the legs returned, then PAUSED where a cause is present or a pause pending, and a plan build else. -/
theorem voidSettleReturns : Obligations.VoidSettleReturns := by
  intro s hheld hrunning he held
  refine ⟨_, exec_voidSettleEnd hheld he, ?_⟩
  rcases decideAfterSettle_cases (settleVoid s) with ⟨hcause, e⟩ | ⟨hnone, hpending, e⟩ <;> rw [e]
  · have hmust : held := hcause.imp_left (PauseCauses.any_iff _).1
    rw [enterPaused_frame]
    exact ⟨rfl, rfl, rfl, rfl, rfl, fun _ => ⟨rfl, rfl⟩, fun _ => ⟨rfl, rfl, rfl, rfl, rfl⟩, fun h => absurd hmust h⟩
  · have hmust : ¬held := by
      rintro (h | h)
      · exact absurd (((PauseCauses.any_iff _).2 h).symm.trans hnone) nofun
      · exact absurd (hpending.symm.trans h) Bool.false_ne_true
    have hkept := startPlanBuild_legsKept (settleVoid s)
    have hlegs (n : Slot) := And.intro (hkept.misses n) (hkept.state n)
    rw [startPlanBuild_frame] at hlegs ⊢
    exact ⟨rfl, rfl, rfl, rfl, rfl, hlegs, fun h => absurd h hmust, fun _ => ⟨rfl, rfl, rfl⟩⟩

end Sys2Proof.Machine
end

section
/-! PARAM_GET and PARAM_SET (R72 to R75). -/

namespace Sys2Proof.Machine

section
variable {s : State} {payload : List Byte} {n hi lo : Byte} {r : ParamRef}

/-! ## PARAM_GET -/

theorem answerParamGet_malformed (h : payload.length ≠ 1) : answerParamGet payload s = (s, .refusal .malformed) := by
  unfold answerParamGet
  split
  · simp at h
  · rfl

theorem answerParamGet_range (h : paramOf n.toNat = none) : answerParamGet [n] s = (s, .refusal .range) := by
  simp [answerParamGet, h]

theorem answerParamGet_barred (h : paramOf n.toNat = some r) (hb : paramBarred s n.toNat = true) :
    answerParamGet [n] s = (s, .refusal .state) := by
  simp [answerParamGet, h, hb]

theorem answerParamGet_answers (h : paramOf n.toNat = some r) (hb : paramBarred s n.toNat = false) :
    answerParamGet [n] s = (s, ⟨.ok, n :: be16 (s.campaign.params.get r)⟩) := by
  simp [answerParamGet, h, hb]

/-! ## PARAM_SET -/

theorem Params.get_store_general (ps : Params) (i : Fin 16) (v : Nat) :
    (ps.store (.general i) v).get (.general i) = clamp (generalRange.at i) v := Table.at_put_self ..

theorem Params.get_store_threshold (ps : Params) (c f : Fin 4) (v : Nat) :
    (ps.store (.threshold c f) v).get (.threshold c f) = ((ps.thresholds.at c).store f v).field f := by
  rw [Params.get, Params.store, Table.at_change_self]

theorem answerParamSet_malformed (h : payload.length ≠ 3) : answerParamSet payload s = (s, .refusal .malformed) := by
  unfold answerParamSet
  split
  · simp at h
  · rfl

theorem answerParamSet_range (h : paramOf n.toNat = none) :
    answerParamSet [n, hi, lo] s = (s, .refusal .range) := by
  simp [answerParamSet, h]

theorem answerParamSet_barred (h : paramOf n.toNat = some r) (hb : paramBarred s n.toNat = true) :
    answerParamSet [n, hi, lo] s = (s, .refusal .state) := by
  simp [answerParamSet, h, hb]

theorem answerParamSet_stores (h : paramOf n.toNat = some r) (hb : paramBarred s n.toNat = false) :
    answerParamSet [n, hi, lo] s
      = (s.onCampaign fun c => { c with params := s.campaign.params.store r (num16 hi lo) },
         ⟨.ok, n :: be16 ((s.campaign.params.store r (num16 hi lo)).get r)⟩) := by
  simp [answerParamSet, h, hb]
  rfl

end

/-- The bar of the campaign state, as the two requests name it. -/
theorem paramBarred_byte (s : State) (n : Byte) :
    paramBarred s n.toNat = true ↔ s.campaign.state = .running ∨ s.campaign.state = .waiting
      ∨ (s.campaign.state = .paused ∧ n = 7#8) := by
  rw [paramBarred_iff, ← BitVec.toNat_inj]
  rfl

/-- Settles O15: the tests in order, and the value with no effect. -/
theorem paramGetAnswers : Obligations.ParamGetAnswers := by
  intro header s hmay
  have run {payload : List Byte} {t : State} {a : Answer} (hp : payload.length ≤ 30)
      (ha : answerParamGet payload (heard header 0x11#8 payload s) = (t, a)) :
      exec (.paramGet header payload) s = .next (replied header a t) :=
    exec_station_answered (k := .paramGet) hmay hp (by decide) ha
  refine ⟨fun payload hp hlen => run hp (answerParamGet_malformed hlen), fun n => ⟨paramOf_none_iff _,
    fun hnone => run (by simp) (answerParamGet_range hnone), fun r hr => ⟨fun hb => ?_, fun hb => ?_⟩⟩⟩
  · exact run (by simp) (answerParamGet_barred hr ((paramBarred_byte s n).2 hb))
  · exact run (by simp) (answerParamGet_answers hr (Bool.eq_false_iff.2 (mt (paramBarred_byte s n).1 hb)))

/-- Settles O16: the tests in order, and the clamps of each parameter. -/
theorem paramSetStores : Obligations.ParamSetStores := by
  intro header s hmay
  have run {payload : List Byte} {t : State} {a : Answer} (hp : payload.length ≤ 30)
      (ha : answerParamSet payload (heard header 0x10#8 payload s) = (t, a)) :
      exec (.paramSet header payload) s = .next (replied header a t) :=
    exec_station_answered (k := .paramSet) hmay hp (by decide) ha
  refine ⟨fun payload hp hlen => run hp (answerParamSet_malformed hlen), fun n hi lo => ?_⟩
  intro v ps numbered barred stored
  have hnone : paramOf n.toNat = none ↔ ¬numbered := (paramOf_none_iff _).trans not_or.symm
  have store (hb : ¬barred) {r : ParamRef} (hr : paramOf n.toNat = some r) :
      stored (ps.store r v) ((ps.store r v).get r) :=
    run (by simp) (answerParamSet_stores hr (Bool.eq_false_iff.2 (mt (paramBarred_byte s n).1 hb)))
  refine ⟨fun hn => run (by simp) (answerParamSet_range (hnone.2 hn)), fun hn hb => ?state,
    fun hb i hi => ?general, fun hb c => ?threshold⟩
  case state =>
    obtain ⟨r, hr⟩ := Option.ne_none_iff_exists'.1 (mt hnone.1 (not_not.2 hn))
    exact run (by simp) (answerParamSet_barred hr ((paramBarred_byte s n).2 hb))
  case general =>
    have h := store hb (paramOf_general hi)
    rw [Params.get_store_general] at h
    exact h
  case threshold =>
    intro t w put
    have field (f : Fin 4) (hf : n.toNat = 32 + 4 * c.val + f.val) :
        stored (put (t.store f v)) ((t.store f v).field f) := by
      have h := store hb (paramOf_threshold hf)
      rw [Params.get_store_threshold] at h
      exact h
    exact ⟨fun hn => field 0 hn, fun hn => field 1 (hn.trans (Nat.add_right_comm 32 1 _)),
      fun hn => field 2 (hn.trans (Nat.add_right_comm 32 2 _)),
      fun hn => field 3 (hn.trans (Nat.add_right_comm 32 3 _))⟩

end Sys2Proof.Machine
end

section
/-! CAMPAIGN_START, CAMPAIGN_RESUME and CAMPAIGN_ABORT (R58, R59, R63, R64). -/

namespace Sys2Proof.Machine

section
variable {s : State}

/-! ## CAMPAIGN_START -/

theorem noneActive_iff (probes : Table NodeRecord 20) :
    probes.toList.all (fun r => r.state != .active) = true ↔ ¬∃ n : Slot, (probes.at n).state = .active := by
  simp [Table.at, Fin.exists_iff]

/-- What stands in the way of a START, test by test. -/
theorem startCauses_eq (s : State) :
    startCauses s = ⟨decide (s.map.status ≠ .valid), decide (s.nv.state ≠ .idle), decide (s.rail.state = .sag),
      decide (s.port.line = .stuck), decide (¬∃ n : Slot, (s.nodes.probes.at n).state = .active), false⟩ := by
  have hnodes : s.nodes.probes.toList.all (fun r => r.state != .active)
      = decide (¬∃ n : Slot, (s.nodes.probes.at n).state = .active) := by
    rw [Bool.eq_iff_iff, noneActive_iff, decide_eq_true_iff]
  rw [startCauses, hnodes]
  simp [bne, Bool.beq_eq_decide_eq]

theorem rail_ne_sag {r : RailState} : r ≠ .sag ↔ r = .ok := by cases r <;> decide

theorem StartCauses.isEmpty_iff {map nv rail line nodes running : Bool} :
    StartCauses.isEmpty ⟨map, nv, rail, line, nodes, running⟩ = true
      ↔ map = false ∧ nv = false ∧ rail = false ∧ line = false ∧ nodes = false ∧ running = false := by
  simp [StartCauses.isEmpty, StartCauses.empty]

theorem answerStart_refuses (hlive : s.campaign.state.live = false) (h : (startCauses s).isEmpty = false) :
    answerStart [] s = (s, ⟨.state, [(startCauses s).byte]⟩) := by
  simp [answerStart, hlive, h]

theorem answerStart_accepts (hlive : s.campaign.state.live = false) (h : (startCauses s).isEmpty = true) :
    answerStart [] s
      = (startCampaign s, ⟨.ok, byteOf (satInc 255 s.campaign.number) :: be16 s.map.legList.length⟩) := by
  simp [answerStart, hlive, h]

/-- The state from which a START begins its plan build (R59). -/
theorem startCampaign_eq (s : State) :
    startCampaign s = startPlanBuild { s with
        results := Results.cleared
        findings := Findings.cleared
        rail := { s.rail with voidTotal := 0, consecutive := 0, sagCount := 0 }
        timebase := { s.timebase with lossCount := 0 }
        port := { s.port with lineFaults := 0 }
        grading := { s.grading with refs := Table.fill 20 (s.p 11 * 256) }
        planner := { s.planner with queue := s.map.legList }
        epoch := { s.epoch with number := 0, lastEnded := none }
        campaign := { s.campaign with
          state := .running, causes := ⟨false, false, false⟩, pausePending := false
          number := satInc 255 s.campaign.number
          retestLimit := s.p 6, origin := s.map.origin, result := .none, certified := false
          lamps := ⟨true, false, false⟩, blinkTimer := none } } := rfl

/-! ## CAMPAIGN_RESUME -/

theorem resumeCauses_isEmpty :
    (resumeCauses s).isEmpty = true ↔ ¬(s.rail.state = .sag ∨ s.port.line = .stuck) := by
  rw [resumeCauses, StartCauses.empty, StartCauses.isEmpty_iff]
  simp

theorem answerResume_accepts (hc : s.campaign.state = .paused) (h : ¬(s.rail.state = .sag ∨ s.port.line = .stuck)) :
    answerResume [] s = (resumeCampaign s, ⟨.ok, []⟩) := by
  simp [answerResume, hc, resumeCauses_isEmpty.2 h]

theorem answerResume_refuses (hc : s.campaign.state = .paused) (h : s.rail.state = .sag ∨ s.port.line = .stuck) :
    answerResume [] s = (s, ⟨.state, [(resumeCauses s).byte]⟩) := by
  simp [answerResume, hc, resumeCauses_isEmpty, h]

theorem answerResume_running (hc : s.campaign.state = .running ∨ s.campaign.state = .waiting) :
    answerResume [] s = (s, ⟨.state, [StartCauses.runningOnly.byte]⟩) := by
  rcases hc with hc | hc <;> simp [answerResume, hc]

theorem answerResume_ended
    (hc : s.campaign.state = .idle ∨ s.campaign.state = .done ∨ s.campaign.state = .aborted) :
    answerResume [] s = (s, ⟨.state, [StartCauses.empty.byte]⟩) := by
  rcases hc with hc | hc | hc <;> simp [answerResume, hc]

theorem resumeCampaign_eq (s : State) :
    resumeCampaign s = startPlanBuild (s.onCampaign fun c => { c with
      state := .running, causes := ⟨false, false, false⟩, pausePending := false
      lamps := ⟨true, false, badCondition s⟩, blinkTimer := none }) := rfl

/-! ## CAMPAIGN_ABORT -/

theorem answerAbort_accepts (h : s.campaign.state.live = true) : answerAbort [] s = (abortCampaign s, ⟨.ok, []⟩) := by
  simp [answerAbort, h]

theorem answerAbort_refuses (h : s.campaign.state.live = false) : answerAbort [] s = (s, .refusal .state) := by
  simp [answerAbort, h]

end

/-! ## The obligations -/

/-- Settles O25: refused by what stands in the way, or opened as the nine steps say. -/
theorem startOpensCampaign : Obligations.StartOpensCampaign := by
  intro header s hmay hlive h number someActive clear
  have hcauses : startCauses h = startCauses s := rfl
  have hempty : (startCauses s).isEmpty = true ↔ clear := by
    rw [startCauses_eq, StartCauses.isEmpty_iff]
    simp only [decide_eq_false_iff_not, not_not, ← rail_ne_sag, and_true, clear, someActive]
  have run {t : State} {a : Answer} (ha : answerStart [] h = (t, a)) :
      exec (.campaignStart header []) s = .next (replied header a t) :=
    exec_station_answered (k := .campaignStart) hmay (Nat.zero_le _) (by decide) ha
  refine ⟨fun hnot => ?_, fun hclear => ?_⟩
  · have hanswer := run (answerStart_refuses hlive (Bool.eq_false_iff.2 (mt hempty.1 hnot)))
    rw [hcauses, startCauses_eq] at hanswer
    exact hanswer
  · have hanswer := run (answerStart_accepts hlive (hempty.2 hclear))
    rw [startCampaign_eq] at hanswer
    exact hanswer

/-- Settles O27: the two requests in each campaign state. -/
theorem resumeAndAbort : Obligations.ResumeAndAbort := by
  intro header s hmay h refused
  have resume {t : State} {a : Answer} (ha : answerResume [] h = (t, a)) :
      exec (.campaignResume header []) s = .next (replied header a t) :=
    exec_station_answered (k := .campaignResume) hmay (Nat.zero_le _) (by decide) ha
  have abort {t : State} {a : Answer} (ha : answerAbort [] (heard header 0x33#8 [] s) = (t, a)) :
      exec (.campaignAbort header []) s = .next (replied header a t) :=
    exec_station_answered (k := .campaignAbort) hmay (Nat.zero_le _) (by decide) ha
  refine ⟨fun hc hrail hline => ?resumes, fun hc hcause => resume (answerResume_refuses hc hcause),
    fun hc => resume (answerResume_running hc), fun hc => resume (answerResume_ended hc), fun hlive => ?aborts,
    fun hlive => abort (answerAbort_refuses hlive)⟩
  case resumes =>
    have hanswer := resume (answerResume_accepts (s := h) hc (by simp [h, hrail, hline]))
    rw [resumeCampaign_eq] at hanswer
    exact hanswer
  case aborts =>
    have hnodes : (replied header ⟨.ok, []⟩ (abortCampaign (heard header 0x33#8 [] s))).nodes
        = { s.nodes with silence := 0 } := if_pos ⟨hmay.2.1, by decide⟩
    refine ⟨_, abort (answerAbort_accepts hlive), rfl, rfl, rfl, rfl, rfl, ?_⟩
    rw [← hnodes]
    rfl

end Sys2Proof.Machine
end

section
/-! The law of the plan (R83, R86, R89, R90): the trials a scan of the queue admits keep it, and every other move
empties the trial table or changes the states of its trials alone. -/

namespace Sys2Proof.Machine

/-! ## The law, of a snapshot and a list of trials -/

/-- `TrialLaw`, clause by clause, of the trials planned on a snapshot. -/
structure LawfulPlan (snapshot : List (Slot × Nat)) (trials : List Trial) : Prop where
  length : trials.length ≤ 32
  drives : ∀ n : Slot, drivesAt trials n ≤ 8
  listens : ∀ n : Slot, ∀ c, channelsIn snapshot n = some c → listensAt trials n ≤ c
  nodes : ∀ y ∈ trials,
    (channelsIn snapshot y.driver.slot).isSome = true ∧ (channelsIn snapshot y.receiver.slot).isSome = true
  clear : trials.Pairwise fun y x => blocks y x.driver x.receiver = false

theorem lawfulPlan_iff (s : State) : LawfulPlan s.planner.snapshot s.planner.trials ↔ TrialLaw s :=
  ⟨fun ⟨hlength, hdrives, hlistens, hnodes, hclear⟩ => ⟨hlength, hdrives, hlistens, hnodes, hclear⟩,
    fun ⟨hlength, hdrives, hlistens, hnodes, hclear⟩ => ⟨hlength, hdrives, hlistens, hnodes, hclear⟩⟩

section
variable {snapshot : List (Slot × Nat)}

theorem lawfulPlan_nil : LawfulPlan snapshot [] :=
  ⟨Nat.zero_le _, fun _ => Nat.zero_le _, fun _ _ _ => Nat.zero_le _, nofun, .nil⟩

theorem drivesAt_concat (adm : List Trial) (y : Trial) (n : Slot) :
    drivesAt (adm ++ [y]) n = drivesAt adm n + if y.driver.slot = n then 1 else 0 := by
  simp [drivesAt, List.countP_append, List.countP_singleton]

theorem listensAt_concat (adm : List Trial) (y : Trial) (n : Slot) :
    listensAt (adm ++ [y]) n = listensAt adm n + if y.receiver.slot = n then y.listen.length else 0 := by
  by_cases h : y.receiver.slot = n <;> simp [listensAt, h]

/-- A trial that fits beside the admitted ones keeps the law with them (R88, R90). -/
theorem LawfulPlan.concat {adm : List Trial} {m : MapStore} {l : LegIx} (number : Nat)
    (hfits : fits snapshot adm (m.driverEnd l) (m.receiverEnd l) = true) (h : LawfulPlan snapshot adm) :
    LawfulPlan snapshot (adm ++ [newTrial m number l]) := by
  obtain ⟨hdriver, ⟨channels, hreceiver, hroom⟩, hlength, hdrives, hclear⟩ := (fits_eq_true ..).1 hfits
  refine ⟨?_, fun n => ?_, fun n c hc => ?_, ?_, ?_⟩
  · rw [List.length_append, List.length_singleton]
    exact hlength
  · have := h.drives n
    rw [drivesAt_concat]
    split
    next hn =>
      subst hn
      exact hdrives
    next => exact this
  · have := h.listens n c hc
    rw [listensAt_concat]
    split
    next hn =>
      subst hn
      obtain rfl : channels = c := Option.some.inj (hreceiver.symm.trans hc)
      exact hroom
    next => exact this
  · rw [List.forall_mem_append, List.forall_mem_singleton]
    exact ⟨h.nodes, hdriver, Option.isSome_of_eq_some hreceiver⟩
  · rw [List.pairwise_append]
    exact ⟨h.clear, List.pairwise_singleton .., fun y hy x hx => List.mem_singleton.1 hx ▸ hclear y hy⟩

theorem lawfulPlan_scanQueue (m : MapStore) (queue : List LegIx) :
    LawfulPlan snapshot (scanQueue m snapshot queue) := by
  refine List.foldlRecOn (motive := LawfulPlan snapshot) _ _ lawfulPlan_nil fun adm hadm l _ => ?_
  by_cases hfits : fits snapshot adm (m.driverEnd l) (m.receiverEnd l) = true
  · rw [admitLeg_fits m snapshot hfits]
    exact hadm.concat adm.length hfits
  · rw [admitLeg_skips m snapshot hfits]
    exact hadm

/-! ## The same plan -/

/-- A trial as the plan admitted it, whatever its state has become (R84). -/
def Trial.asPlanned (y : Trial) : Trial := { y with state := .held }

/-- The law reads no trial's state. -/
theorem lawfulPlan_asPlanned (ys : List Trial) :
    LawfulPlan snapshot (ys.map Trial.asPlanned) ↔ LawfulPlan snapshot ys := by
  have driven (n : Slot) : drivesAt (ys.map Trial.asPlanned) n = drivesAt ys n := List.countP_map
  have listened (n : Slot) : listensAt (ys.map Trial.asPlanned) n = listensAt ys n := by
    rw [listensAt, List.filter_map, List.map_map]
    rfl
  constructor
  · rintro ⟨hlength, hdrives, hlistens, hnodes, hclear⟩
    simp only [driven, listened, List.length_map, List.forall_mem_map, List.pairwise_map]
      at hlength hdrives hlistens hnodes hclear
    exact ⟨hlength, hdrives, hlistens, hnodes, hclear⟩
  · rintro ⟨hlength, hdrives, hlistens, hnodes, hclear⟩
    refine ⟨?_, ?_, ?_, ?_, ?_⟩ <;>
      simp only [driven, listened, List.length_map, List.forall_mem_map, List.pairwise_map]
    exacts [hlength, hdrives, hlistens, hnodes, hclear]

end

/-- From `s` to `t` the snapshot is kept, and the trials but for their states. -/
structure SamePlan (s t : State) : Prop where
  snapshot : t.planner.snapshot = s.planner.snapshot
  trials : t.planner.trials.map Trial.asPlanned = s.planner.trials.map Trial.asPlanned

section
variable {s t : State}

theorem SamePlan.trialLaw (h : SamePlan s t) (hs : TrialLaw s) : TrialLaw t := by
  rw [← lawfulPlan_iff, ← lawfulPlan_asPlanned] at hs ⊢
  rw [h.snapshot, h.trials]
  exact hs

theorem SamePlan.of_planner (h : t.planner = s.planner) : SamePlan s t :=
  ⟨congrArg Planner.snapshot h, congrArg _ (congrArg Planner.trials h)⟩

theorem SamePlan.trans {u : State} (h : SamePlan s t) (h' : SamePlan t u) : SamePlan s u :=
  ⟨h'.snapshot.trans h.snapshot, h'.trials.trans h.trials⟩

/-- Giving some of the trials another state keeps the plan. -/
theorem SamePlan.of_states {f : Trial → Trial} (hsnapshot : t.planner.snapshot = s.planner.snapshot)
    (htrials : t.planner.trials = s.planner.trials.map f) (hf : ∀ y, (f y).asPlanned = y.asPlanned) :
    SamePlan s t := by
  refine ⟨hsnapshot, ?_⟩
  rw [htrials, List.map_map]
  exact List.map_congr_left fun y _ => hf y

theorem samePlan_recordGrading (y : Trial) (r : LegResult) (s : State) : SamePlan s (recordGrading y r s) := by
  refine .of_states (by rw [recordGrading_frame]) (recordGrading_trials y r s) fun x => ?_
  split <;> rfl

theorem samePlan_gradeTrial (s : State) (y : Trial) : SamePlan s (gradeTrial s y) := by
  rcases gradeTrial_cases s y with e | ⟨r, ps, _, e⟩ <;> rw [e]
  · exact .of_planner rfl
  · have hpresented : SamePlan s (presentAll ps s) := .of_planner (by rw [presentAll_frame])
    exact hpresented.trans (samePlan_recordGrading ..)

theorem samePlan_completeReport (n : Slot) (s : State) : SamePlan s (completeReport n s) :=
  List.foldlRecOn (motive := SamePlan s) _ _ (.of_planner rfl) fun _ h y _ => h.trans (samePlan_gradeTrial _ y)

theorem samePlan_withdraw (s : State) : SamePlan s (withdraw s) := by
  refine .of_states ?_ (congrArg Planner.trials (withdraw_planner s)) fun y => ?_
  · rw [withdraw_planner]
  · split <;> rfl

/-! ## The phases go on -/

/-- From `s` to `t` the epoch record alone changes, and its state is past the plan build. -/
structure Advances (s t : State) : Prop where
  frame : t = { s with epoch := t.epoch }
  state : t.epoch.state ∉ [EpochState.none, .planning]

theorem phase1Ends_advances (h : s.epoch.state = .phase1) : Advances s (phase1Ends s) := by
  rw [phase1Ends, if_pos h]
  split <;> exact ⟨rfl, by simp [beginPhase2, beginPhase, beginGap]⟩

theorem gapEnds_advances (h : s.epoch.state = .gap) : Advances s (gapEnds s) := by
  rw [gapEnds, if_pos h]
  exact ⟨rfl, by simp [beginPhase2, beginPhase]⟩

theorem phase2Ends_advances (h : s.epoch.state = .phase2) : Advances s (phase2Ends s) := by
  rw [phase2Ends, if_pos h]
  exact ⟨rfl, by simp [beginCollecting]⟩

theorem deadlineRunsOut_advances (h : s.epoch.state = .collecting) : Advances s (deadlineRunsOut s) := by
  rw [deadlineRunsOut, if_pos h]
  exact ⟨rfl, by simp⟩

theorem Advances.planner (h : Advances s t) : t.planner = s.planner := by rw [h.frame]

/-! ## What a move does to the plan -/

theorem closeEpoch_trials (normal : Bool) (s : State) : (closeEpoch normal s).planner.trials = [] :=
  (closeEpoch_closed normal s).trials

theorem decidePlan_plan (s : State) : (decidePlan s).planner.trials = [] ∨ SamePlan s (decidePlan s) := by
  rcases decidePlan_cases s with ⟨_, e⟩ | ⟨_, _, e⟩ | ⟨_, _, _, e⟩ | ⟨_, _, _, e⟩ <;> rw [e]
  · exact .inr (.of_planner (by rw [enterVoid_frame]))
  · obtain ⟨-, -, hplanner, -⟩ := emptyPlan_leaves s
    exact .inl (by rw [hplanner]; rfl)
  · exact .inl rfl
  · exact .inr (.of_planner rfl)

theorem afterWithdrawal_plan (s : State) :
    (afterWithdrawal s).planner.trials = [] ∨ SamePlan s (afterWithdrawal s) := by
  by_cases h : heldTrials s = []
  · rw [afterWithdrawal_closes h]
    exact .inl (closeEpoch_trials false s)
  · exact .inr (.of_planner (afterWithdrawal_goesOn h).1)

theorem acceptRun_plan (n : Slot) (values : List EntryValue) (s : State) :
    (acceptRun n values s).planner.trials = [] ∨ SamePlan s (acceptRun n values s) := by
  have hstored : SamePlan s (storeRun n values s) := .of_planner rfl
  unfold acceptRun closeIfDone
  split_ifs
  · exact .inl (closeEpoch_trials true _)
  · exact .inr (hstored.trans (samePlan_completeReport n _))
  · exact .inr hstored

/-- A move empties the trial table, keeps the plan, or is the plan end, whose plan is then emptied or kept. -/
theorem Move.plan_cases (hm : Move s t) :
    t.planner.trials = [] ∨ SamePlan s t ∨ SamePlan (makePlan s) t := by
  cases hm with
  | aside ha => exact .inr (.inl (.of_planner ha.planner))
  | params | hold | fetch => exact .inr (.inl (.of_planner rfl))
  | present p => exact .inr (.inl (.of_planner (by rw [present_frame])))
  | void cause => exact .inr (.inl (.of_planner (by rw [enterVoid_frame])))
  | write =>
    unfold mapEdit
    split <;> exact .inr (.inl (.of_planner rfl))
  | blink hc =>
    rw [blinkLamp, if_pos hc]
    exact .inr (.inl (.of_planner rfl))
  | phase1End he => exact .inr (.inl (.of_planner (phase1Ends_advances he).planner))
  | gapEnd he => exact .inr (.inl (.of_planner (gapEnds_advances he).planner))
  | phase2End he => exact .inr (.inl (.of_planner (phase2Ends_advances he).planner))
  | deadline he => exact .inr (.inl (.of_planner (deadlineRunsOut_advances he).planner))
  | reset | restart | start | pause | resume | abort | wake => exact .inl rfl
  | expire hc =>
    rw [waitExpires, if_pos hc]
    exact .inl rfl
  | plan => exact (decidePlan_plan (makePlan s)).imp_right .inr
  | announceEnd =>
    exact (afterWithdrawal_plan (withdraw s)).imp_right fun h => .inl ((samePlan_withdraw s).trans h)
  | report => exact (acceptRun_plan _ _ s).imp_right .inl
  | graceEnd => exact .inl (closeEpoch_trials true _)
  | voidSettle =>
    rcases decideAfterSettle_cases (settleVoid s) with ⟨_, e⟩ | ⟨_, _, e⟩ <;> rw [e] <;> exact .inl rfl

end

/-- Settles O56: a scan of the queue admits a lawful plan, and no other move makes one. -/
theorem plansStayLawful : Obligations.PlansStayLawful := by
  intro s t hlaw hstep
  refine (Moves.of_step hstep).keeps (P := TrialLaw) (fun {u v} hm hu => ?_) hlaw
  rcases hm.plan_cases with hnil | hsame | hplanned
  · rw [← lawfulPlan_iff, hnil]
    exact lawfulPlan_nil
  · exact hsame.trialLaw hu
  · exact hplanned.trialLaw ((lawfulPlan_iff _).1 (lawfulPlan_scanQueue u.map u.planner.queue))

end Sys2Proof.Machine
end

section
/-! The counts of the results (R152): the law of the counts, read of the Results Table alone, and the two ways a leg
is written that keep it. -/

namespace Sys2Proof

/-- Of a table with one place replaced, the places that pass a test. -/
theorem Table.countP_put (t : Table α n) (i : Fin n) (a : α) (p : α → Bool) :
    (t.put i a).toList.countP p
      = (t.toList.countP p - if p (t.at i) = true then 1 else 0) + if p a = true then 1 else 0 := by
  have hi : i.val < t.toList.length := by simp
  rw [Table.put, Vector.toList_set, List.countP_set hi]
  rfl

end Sys2Proof

namespace Sys2Proof.Machine

/-- The verdicts in the order of their counts (R152). -/
def countedVerdicts : List Verdict :=
  [.pass, .weak, .open, .errors, .crossed, .shorted, .noDrive, .noReport, .untested]

theorem countedVerdicts_at {v : Verdict} {i : Fin 9} (h : v.countIx = some i) : countedVerdicts[i.val]? = some v := by
  cases v <;> cases h <;> rfl

/-- Each count is of one verdict. -/
theorem countIx_iff {v w : Verdict} {i j : Fin 9} (hv : v.countIx = some i) (hw : w.countIx = some j) :
    i = j ↔ v = w := by
  constructor
  · rintro rfl
    exact Option.some.inj ((countedVerdicts_at hv).symm.trans (countedVerdicts_at hw))
  · rintro rfl
    exact Option.some.inj (hv.symm.trans hw)

theorem countIx_of_ne_none {v : Verdict} (h : v ≠ .none) : ∃ i, v.countIx = some i := by
  cases v with
  | none => exact absurd rfl h
  | _ => exact ⟨_, rfl⟩

/-- `CountLaw`, clause by clause, of the Results Table. -/
structure Results.Counted (rs : Results) : Prop where
  verdicts : ∀ (v : Verdict) (i : Fin 9), v.countIx = some i →
    rs.counts.at i = rs.records.toList.countP fun r => r.settled && r.verdict == v
  settled : rs.counts.toList.sum = rs.records.toList.countP (·.settled)
  degraded : rs.degraded = rs.records.toList.countP (·.degraded)

theorem counted_iff (s : State) : s.results.Counted ↔ CountLaw s :=
  ⟨fun ⟨hverdicts, hsettled, hdegraded⟩ => ⟨hverdicts, hsettled, hdegraded⟩,
    fun ⟨hverdicts, hsettled, hdegraded⟩ => ⟨hverdicts, hsettled, hdegraded⟩⟩

theorem Results.cleared_counted : Results.cleared.Counted := (counted_iff State.reset).2 countLaw_reset

section
variable {rs : Results} {l : LegIx} {r : LegResult}

/-- Writing a record that took the place of one failing a test, the records that pass it. -/
theorem Results.countP_write {p : LegResult → Bool} (hold : p (rs.records.at l) = false) :
    (rs.write l r).records.toList.countP p = rs.records.toList.countP p + if p r = true then 1 else 0 := by
  refine (Table.countP_put ..).trans ?_
  simp [hold]

theorem Results.degraded_write (h : rs.Counted) :
    (rs.write l r).degraded = (rs.write l r).records.toList.countP (·.degraded) := by
  refine Eq.trans ?_ (Table.countP_put ..).symm
  rw [← h.degraded]
  rfl

/-- An unsettled record in place of an unsettled one changes no count. -/
theorem Results.Counted.write (hold : (rs.records.at l).settled = false) (hnew : r.settled = false)
    (h : rs.Counted) : (rs.write l r).Counted where
  verdicts v i hi := by
    rw [Results.countP_write (by simp [hold])]
    rw [hnew]
    exact h.verdicts v i hi
  settled := by
    rw [Results.countP_write (p := (·.settled)) hold]
    rw [hnew]
    exact h.settled
  degraded := Results.degraded_write h

/-- A settled record in place of an unsettled one, with its verdict counted (R152). -/
theorem Results.Counted.settle (hold : (rs.records.at l).settled = false) (hnew : r.settled = true)
    (hverdict : r.verdict ≠ .none) (h : rs.Counted) : ((rs.write l r).count r.verdict).Counted := by
  obtain ⟨j, hj⟩ := countIx_of_ne_none hverdict
  have hcount : (rs.write l r).count r.verdict
      = { rs.write l r with counts := rs.counts.change j (· + 1) } := by
    simp only [Results.count, hj]
    rfl
  rw [hcount]
  refine ⟨fun v i hi => ?_, ?_, Results.degraded_write h⟩
  · have hindex := countIx_iff hi hj
    have hbefore := h.verdicts v i hi
    dsimp only
    rw [Results.countP_write (by simp [hold]), Table.at_change, ← hbefore]
    by_cases hv : v = r.verdict
    · simp [hindex.2 hv, hv, hnew]
    · simp [mt hindex.1 hv, Ne.symm hv]
  · dsimp only
    rw [Results.countP_write (p := (·.settled)) hold, Table.sum_change_add, h.settled, hnew]
    rfl

end

/-- Unsettled legs settled UNTESTED one after the other, none of them twice (R151). -/
theorem Results.Counted.settleUntested {legs : List LegIx} (hnodup : legs.Nodup) {rs : Results}
    (hold : ∀ l ∈ legs, (rs.records.at l).settled = false) (h : rs.Counted) :
    (legs.foldl settleUntested rs).Counted := by
  induction legs generalizing rs with
  | nil => exact h
  | cons l legs ih =>
    obtain ⟨hl, hnodup⟩ := List.nodup_cons.1 hnodup
    refine ih hnodup (fun l' hl' => ?_) (h.settle (hold l List.mem_cons_self) rfl nofun)
    have hne : l' ≠ l := fun e => hl (e ▸ hl')
    rw [settleUntested_record, if_neg hne]
    exact hold l' (List.mem_cons_of_mem _ hl')

end Sys2Proof.Machine
end

section
/-! The stages of a campaign (R57, R79, R83, R97): every move keeps that epochs exist exactly while the campaign is
RUNNING, that the plan is empty outside an epoch, and that no trial number is repeated. -/

namespace Sys2Proof.Machine

/-- The laws that tell in which stage of a campaign there are epochs and plans. -/
structure Staged (s : State) : Prop where
  running : RunningLaw s
  empty : EmptyLaw s

section
variable {s t : State}

/-! ## The four ways a stage can follow -/

/-- The campaign stands, and the epoch and the plan are as they were. -/
theorem Staged.stays (h : Staged s) (hc : t.campaign.state = s.campaign.state)
    (he : t.epoch.state = s.epoch.state) (hp : t.planner = s.planner) : Staged t where
  running := by
    rw [RunningLaw, hc, he]
    exact h.running
  empty := by
    rw [EmptyLaw, hc, he, hp]
    exact h.empty

/-- The epoch goes on past its plan build. -/
theorem Staged.goesOn (h : Staged s) (hc : t.campaign.state = s.campaign.state) (hs : s.epoch.state ≠ .none)
    (ht : t.epoch.state ∉ [EpochState.none, .planning]) : Staged t := by
  have hrun := hc.trans (h.running.state_running hs)
  simp only [List.mem_cons, List.not_mem_nil, or_false] at ht
  refine ⟨runningLaw_open hrun fun he => ht (.inl he), fun hlive => ?_, fun he => absurd he ht⟩
  rw [hrun] at hlive
  cases hlive

/-- The campaign is not RUNNING and has no epoch and no trial; its queue is empty unless it is live. -/
theorem staged_closed (hc : t.campaign.state ≠ .running) (he : t.epoch.state = .none) (ht : t.planner.trials = [])
    (hq : t.campaign.state.live = false → t.planner.queue = []) : Staged t :=
  ⟨runningLaw_ended hc he, fun hlive => ⟨hq hlive, ht⟩, fun _ => ht⟩

theorem staged_enterPaused (s : State) : Staged (enterPaused s) := staged_closed (by simp) rfl rfl nofun

theorem staged_enterWaiting (s : State) : Staged (enterWaiting s) := staged_closed (by simp) rfl rfl nofun

theorem staged_enterDone (hq : s.planner.queue = []) : Staged (enterDone s) :=
  staged_closed (by simp) rfl rfl fun _ => hq

theorem staged_startPlanBuild (hc : s.campaign.state = .running) : Staged (startPlanBuild s) := by
  refine ⟨runningLaw_open hc nofun, fun hlive => ?_, fun _ => rfl⟩
  rw [startPlanBuild_campaign, hc] at hlive
  cases hlive

theorem staged_closeEpoch (normal : Bool) (hc : s.campaign.state = .running) : Staged (closeEpoch normal s) := by
  rw [closeEpoch_eq]
  rcases decideAfterClose_cases (markClosed normal s) with ⟨_, e⟩ | ⟨_, hq, _, e⟩ | ⟨_, _, e⟩ <;> rw [e]
  · exact staged_enterPaused _
  · exact staged_enterDone hq
  · exact staged_startPlanBuild hc

/-! ## The moves -/

theorem Staged.void (cause : VoidCause) (he : s.epoch.state ≠ .none) (h : Staged s) : Staged (enterVoid cause s) :=
  h.goesOn (by rw [enterVoid_frame]) he (by simp)

theorem Staged.advances (ha : Advances s t) (he : s.epoch.state ≠ .none) (h : Staged s) : Staged t :=
  h.goesOn (by rw [ha.frame]) he ha.state

theorem Staged.mapEdit (hlive : s.campaign.state.live = false) (h : Staged s) : Staged (mapEdit s) := by
  by_cases hidle : s.campaign.state = .idle
  · rw [mapEdit_idle hidle]
    exact h
  · obtain ⟨hqueue, htrials⟩ := h.empty.1 hlive
    rw [mapEdit_ended (ended_of_settled hlive hidle)]
    exact staged_closed nofun (h.running.epoch_none (state_ne_running hlive)) htrials fun _ => hqueue

theorem Staged.decidePlan (he : s.epoch.state = .planning) (h : Staged s) : Staged (decidePlan (makePlan s)) := by
  have hopen : s.epoch.state ≠ .none := by simp [he]
  rcases decidePlan_cases (makePlan s) with ⟨_, e⟩ | ⟨_, _, e⟩ | ⟨_, _, _, e⟩ | ⟨_, _, _, e⟩ <;> rw [e]
  · exact h.goesOn (by rw [enterVoid_frame]; rfl) hopen (by simp)
  · rcases emptyPlan_cases (makePlan s) with ⟨hq, e⟩ | ⟨_, _, e⟩ | ⟨_, _, e⟩ <;> rw [e]
    · exact staged_enterDone hq
    · exact staged_enterPaused _
    · exact staged_enterWaiting _
  · exact staged_enterPaused _
  · exact h.goesOn rfl hopen (by simp [beginAnnounce])

theorem Staged.afterWithdrawal (he : s.epoch.state = .announce) (h : Staged s) :
    Staged (afterWithdrawal (withdraw s)) := by
  have hopen : s.epoch.state ≠ .none := by simp [he]
  obtain ⟨-, hcampaign, -⟩ := withdraw_leaves s
  unfold Machine.afterWithdrawal
  split_ifs
  · exact staged_closeEpoch false (hcampaign ▸ h.running.state_running hopen)
  · exact h.goesOn (by rw [enterVoid_frame, hcampaign]) hopen (by simp)
  · exact h.goesOn (by rw [beginPhase1_frame, hcampaign]) hopen (by rw [beginPhase1_frame]; simp)

theorem completeReport_state (n : Slot) (s : State) : (completeReport n s).campaign.state = s.campaign.state := by
  refine List.foldlRecOn (motive := fun t : State => t.campaign.state = s.campaign.state) _ _ rfl fun t ht y _ => ?_
  rw [gradeTrial_frame]
  exact ht

theorem Staged.acceptRun (n : Slot) (values : List EntryValue)
    (he : s.epoch.state = .collecting ∨ s.epoch.state = .grace) (h : Staged s) : Staged (acceptRun n values s) := by
  have hopen : s.epoch.state ≠ .none := by rcases he with he | he <;> simp [he]
  have hpast : s.epoch.state ∉ [EpochState.none, .planning] := by rcases he with he | he <;> simp [he]
  have hstate := completeReport_state n (storeRun n values s)
  have hepoch := completeReport_epoch n (storeRun n values s)
  unfold Machine.acceptRun closeIfDone
  split_ifs
  · exact staged_closeEpoch true (hstate.trans (h.running.state_running hopen))
  · exact h.goesOn hstate hopen (by rw [hepoch]; exact hpast)
  · exact h.goesOn rfl hopen hpast

theorem Staged.move (hm : Move s t) (h : Staged s) : Staged t := by
  cases hm with
  | aside ha => exact h.stays ha.campaign ha.epoch ha.planner
  | params | hold | fetch => exact h.stays rfl rfl rfl
  | present p =>
    rw [present_frame]
    exact h.stays rfl rfl rfl
  | blink hc =>
    rw [blinkLamp, if_pos hc]
    exact h.stays rfl rfl rfl
  | reset | restart => exact staged_closed nofun rfl rfl fun _ => rfl
  | write start records hlive => exact Staged.mapEdit (s := s.onMap _) hlive (h.stays rfl rfl rfl)
  | start | resume | wake => exact staged_startPlanBuild rfl
  | pause => exact staged_enterPaused s
  | abort => exact staged_closed nofun rfl rfl fun _ => rfl
  | expire hc =>
    rw [waitExpires, if_pos hc]
    exact staged_enterDone rfl
  | void cause he => exact h.void cause he
  | plan he => exact h.decidePlan he
  | announceEnd he => exact h.afterWithdrawal he
  | phase1End he => exact h.advances (phase1Ends_advances he) (by simp [he])
  | gapEnd he => exact h.advances (gapEnds_advances he) (by simp [he])
  | phase2End he => exact h.advances (phase2Ends_advances he) (by simp [he])
  | deadline he => exact h.advances (deadlineRunsOut_advances he) (by simp [he])
  | report _ _ he => exact h.acceptRun _ _ he
  | graceEnd he =>
    obtain ⟨-, -, -, hstate, -⟩ := settleGrace_leaves (s := s)
    exact staged_closeEpoch true (hstate.trans (h.running.state_running (by simp [he])))
  | voidSettle he =>
    rcases decideAfterSettle_cases (settleVoid s) with ⟨_, e⟩ | ⟨_, _, e⟩ <;> rw [e]
    · exact staged_enterPaused _
    · exact staged_startPlanBuild (h.running.state_running (by simp [he]))

/-! ## The numbers of the trials -/

theorem SamePlan.numbers (h : SamePlan s t) :
    t.planner.trials.map (·.number) = s.planner.trials.map (·.number) := by
  have hnumbers := congrArg (List.map Trial.number) h.trials
  rw [List.map_map, List.map_map] at hnumbers
  exact hnumbers

/-- A scan numbers its trials by their places, and no move renumbers one (R83). -/
theorem Move.numbers_nodup (hm : Move s t) (h : (s.planner.trials.map (·.number)).Nodup) :
    (t.planner.trials.map (·.number)).Nodup := by
  rcases hm.plan_cases with hnil | hsame | hplanned
  · rw [hnil]
    exact .nil
  · rw [hsame.numbers]
    exact h
  · rw [hplanned.numbers]
    exact scanQueue_numbers_nodup ..

end

end Sys2Proof.Machine
end

section
/-! The attempts of the legs (R79, R132, R151, R152): a move leaves the records alone and opens no leg, clears them
all, settles the queue UNTESTED, or records an attempt for the leg of each trial it grades. -/

namespace Sys2Proof.Machine

/-- The laws of O57 that read the records: no open leg stands twice, the attempts are limited, and, where `counted` is
asked, the counts tell the records. -/
structure Tried (counted : Prop) (s : State) : Prop where
  legs : (openLegs s).Nodup
  attempts : AttemptLaw s
  counts : counted → s.results.Counted

/-- From `s` to `t` no record is written, the limit and the parameters stand, and no leg is opened anew. -/
structure RecordsKept (s t : State) : Prop where
  results : t.results = s.results
  retestLimit : t.campaign.retestLimit = s.campaign.retestLimit
  params : t.campaign.params = s.campaign.params
  legs : (openLegs t).Subperm (openLegs s)

section
variable {counted : Prop} {s t u : State}

/-! ## Records kept -/

theorem Tried.kept (h : Tried counted s) (k : RecordsKept s t) : Tried counted t where
  legs := by
    obtain ⟨legs, hperm, hsub⟩ := k.legs
    exact hperm.nodup_iff.1 (hsub.nodup h.legs)
  attempts := by
    obtain ⟨hlimit, hstored, hopen, htried⟩ := h.attempts
    refine ⟨k.retestLimit ▸ hlimit, ?_, fun l hl => ?_, fun l => ?_⟩
    · rw [State.p, k.params]
      exact hstored
    all_goals rw [k.results, k.retestLimit]
    · exact hopen l (k.legs.subset hl)
    · exact htried l
  counts hcounted := k.results ▸ h.counts hcounted

theorem RecordsKept.trans (h : RecordsKept s t) (h' : RecordsKept t u) : RecordsKept s u where
  results := h'.results.trans h.results
  retestLimit := h'.retestLimit.trans h.retestLimit
  params := h'.params.trans h.params
  legs := h'.legs.trans h.legs

theorem openLegs_of_planner (h : t.planner = s.planner) : openLegs t = openLegs s := by
  rw [openLegs, heldLegs, heldTrials, h]
  rfl

/-- The queue and the trials as they were. -/
theorem recordsKept_of_planner (hp : t.planner = s.planner) (hresults : t.results = s.results)
    (hlimit : t.campaign.retestLimit = s.campaign.retestLimit) (hparams : t.campaign.params = s.campaign.params) :
    RecordsKept s t :=
  ⟨hresults, hlimit, hparams, openLegs_of_planner hp ▸ List.Subperm.refl _⟩

/-- The trial table emptied, with a queue of legs that were open. -/
theorem recordsKept_emptied (ht : t.planner.trials = []) (hq : t.planner.queue.Subperm (openLegs s))
    (hresults : t.results = s.results) (hlimit : t.campaign.retestLimit = s.campaign.retestLimit)
    (hparams : t.campaign.params = s.campaign.params) : RecordsKept s t :=
  ⟨hresults, hlimit, hparams, by rwa [openLegs_of_none (heldTrials_of_nil ht)]⟩

theorem queue_subperm (s : State) : s.planner.queue.Subperm (openLegs s) :=
  (List.sublist_append_left ..).subperm

theorem recordsKept_enterPaused (s : State) : RecordsKept s (enterPaused s) :=
  recordsKept_emptied rfl (queue_subperm s) rfl rfl rfl

theorem recordsKept_enterWaiting (s : State) : RecordsKept s (enterWaiting s) :=
  recordsKept_emptied rfl (queue_subperm s) rfl rfl rfl

theorem recordsKept_enterDone (s : State) : RecordsKept s (enterDone s) :=
  recordsKept_emptied rfl (queue_subperm s) rfl rfl rfl

theorem recordsKept_startPlanBuild (s : State) : RecordsKept s (startPlanBuild s) :=
  recordsKept_emptied rfl (queue_subperm s) rfl rfl rfl

theorem recordsKept_closeEpoch (normal : Bool) (s : State) : RecordsKept s (closeEpoch normal s) := by
  have hmarked : RecordsKept s (markClosed normal s) := recordsKept_of_planner rfl rfl rfl rfl
  rw [closeEpoch_eq]
  rcases decideAfterClose_cases (markClosed normal s) with ⟨_, e⟩ | ⟨_, _, _, e⟩ | ⟨_, _, e⟩ <;> rw [e]
  · exact hmarked.trans (recordsKept_enterPaused _)
  · exact hmarked.trans (recordsKept_enterDone _)
  · exact hmarked.trans (recordsKept_startPlanBuild _)

theorem recordsKept_enterVoid (cause : VoidCause) (s : State) : RecordsKept s (enterVoid cause s) := by
  rw [enterVoid_frame]
  exact recordsKept_of_planner rfl rfl rfl rfl

theorem Advances.recordsKept (h : Advances s t) : RecordsKept s t := by
  rw [h.frame]
  exact recordsKept_of_planner rfl rfl rfl rfl

/-- The legs a plan admits were in the queue, and every leg it leaves stays there (R91). -/
theorem recordsKept_makePlan (hnil : s.planner.trials = []) (h : (openLegs s).Nodup) : RecordsKept s (makePlan s) := by
  refine ⟨rfl, rfl, rfl, List.Perm.subperm ?_⟩
  rw [openLegs_of_none (heldTrials_of_nil hnil)] at h ⊢
  rw [openLegs, heldLegs, heldTrials_makePlan]
  exact plannedLegs_perm s h

theorem recordsKept_decidePlan (s : State) : RecordsKept (makePlan s) (decidePlan (makePlan s)) := by
  rcases decidePlan_cases (makePlan s) with ⟨_, e⟩ | ⟨_, _, e⟩ | ⟨_, _, _, e⟩ | ⟨_, _, _, e⟩ <;> rw [e]
  · exact recordsKept_enterVoid .line _
  · have hback : RecordsKept (makePlan s) (giveNumberBack (makePlan s)) := recordsKept_of_planner rfl rfl rfl rfl
    rcases emptyPlan_cases (makePlan s) with ⟨_, e⟩ | ⟨_, _, e⟩ | ⟨_, _, e⟩ <;> rw [e]
    · exact hback.trans (recordsKept_enterDone _)
    · exact hback.trans (recordsKept_enterPaused _)
    · exact hback.trans (recordsKept_enterWaiting _)
  · have hlegs : (pausedPlan (makePlan s)).planner.queue.Perm (openLegs (makePlan s)) := by
      rw [openLegs, heldLegs, heldTrials_makePlan]
      exact List.perm_append_comm
    exact recordsKept_emptied rfl hlegs.subperm rfl rfl rfl
  · exact recordsKept_of_planner rfl rfl rfl rfl

/-- The legs withdrawn go back to the queue (R102). -/
theorem openLegs_withdraw (s : State) : (openLegs (withdraw s)).Perm (openLegs s) := by
  have hsplit := (List.filter_append_perm (unfetched s.nodes) (heldTrials s)).map (·.leg)
  rw [List.map_append] at hsplit
  rw [openLegs, heldLegs, heldTrials_withdraw, withdraw_planner]
  dsimp only
  rw [List.append_assoc]
  exact (List.perm_append_comm_assoc ..).trans (hsplit.append_left s.planner.queue)

theorem recordsKept_withdraw (s : State) : RecordsKept s (withdraw s) := by
  obtain ⟨hresults, hcampaign, -⟩ := withdraw_leaves s
  exact ⟨hresults, by rw [hcampaign], by rw [hcampaign], (openLegs_withdraw s).subperm⟩

theorem recordsKept_afterWithdrawal (s : State) : RecordsKept s (afterWithdrawal s) := by
  unfold afterWithdrawal
  split_ifs
  · exact recordsKept_closeEpoch false s
  · exact recordsKept_enterVoid .rail s
  · rw [beginPhase1_frame]
    exact recordsKept_of_planner rfl rfl rfl rfl

/-- The HELD legs go back to the head of the queue (R118). -/
theorem recordsKept_voidSettle (s : State) : RecordsKept s (decideAfterSettle (settleVoid s)) := by
  have hheld : heldTrials (settleVoid s) = [] := List.filter_eq_nil_iff.2 fun y hy => by
    obtain ⟨x, -, rfl⟩ := List.mem_map.1 hy
    by_cases hx : x.state = .held <;> simp [hx]
  have hlegs : (openLegs (settleVoid s)).Perm (openLegs s) := by
    rw [openLegs_of_none hheld]
    exact List.perm_append_comm
  have hsettled : RecordsKept s (settleVoid s) := ⟨rfl, rfl, rfl, hlegs.subperm⟩
  rcases decideAfterSettle_cases (settleVoid s) with ⟨_, e⟩ | ⟨_, _, e⟩ <;> rw [e]
  · exact hsettled.trans (recordsKept_enterPaused _)
  · exact hsettled.trans (recordsKept_startPlanBuild _)

theorem recordsKept_presentAll (ps : List Presentation) (s : State) : RecordsKept s (presentAll ps s) := by
  rw [presentAll_frame]
  exact recordsKept_of_planner rfl rfl rfl rfl

/-! ## Records cleared, and the queue settled UNTESTED -/

theorem tried_cleared (hresults : t.results = Results.cleared) (hlimit : t.campaign.retestLimit ≤ 3)
    (hstored : t.p 6 ≤ 3) (hlegs : (openLegs t).Nodup) : Tried counted t := by
  have hrecord (l : LegIx) : t.results.records.at l = LegResult.resetForm := by
    rw [hresults]
    exact Table.at_fill ..
  refine ⟨hlegs, ⟨hlimit, hstored, fun l _ => ?_, fun l => ?_⟩, fun _ => hresults ▸ Results.cleared_counted⟩ <;>
    rw [hrecord]
  · exact ⟨rfl, Nat.zero_le _⟩
  · exact Nat.zero_le _

/-- A START opens the legs of the map, none twice, on cleared records, and latches P7 (R59). -/
theorem tried_startCampaign (hstored : s.p 6 ≤ 3) : Tried counted (startCampaign s) := by
  have hlegs : openLegs (startCampaign s) = s.map.legList := by
    rw [openLegs_of_none (s := startCampaign s) rfl, startCampaign_eq, startPlanBuild_frame]
  exact tried_cleared rfl hstored hstored (hlegs ▸ legList_nodup s.map)

theorem Tried.mapEdit (hlive : s.campaign.state.live = false) (h : Tried counted s) :
    Tried counted (mapEdit s) := by
  by_cases hidle : s.campaign.state = .idle
  · rw [mapEdit_idle hidle]
    exact h
  · obtain ⟨hlimit, hstored, -⟩ := h.attempts
    rw [mapEdit_ended (ended_of_settled hlive hidle)]
    exact tried_cleared rfl hlimit hstored h.legs

/-- The whole queue is settled UNTESTED, and no attempt is added (R69, R151). -/
theorem Tried.waitSettled (h : Tried counted s) : Tried counted (waitSettled s) := by
  obtain ⟨hlimit, hstored, hopen, htried⟩ := h.attempts
  obtain ⟨hqueue, hheld, hdisjoint⟩ := List.nodup_append.1 h.legs
  have hrecord (l : LegIx) : (Machine.waitSettled s).results.records.at l
      = if l ∈ s.planner.queue then (s.results.records.at l).untested else s.results.records.at l :=
    settleUntested_records hqueue s.results l
  refine ⟨hheld, ⟨hlimit, hstored, fun l (hl : l ∈ heldLegs s) => ?_, fun l => ?_⟩, fun hcounted => ?_⟩
  · have hnot : l ∉ s.planner.queue := fun hmem => hdisjoint l hmem l hl rfl
    rw [hrecord, if_neg hnot]
    exact hopen l (List.mem_append_right _ hl)
  · rw [hrecord]
    split <;> exact htried l
  · exact (h.counts hcounted).settleUntested hqueue fun l hl => (hopen l ((queue_subperm s).subset hl)).1

/-! ## One attempt -/

/-- A record that a grading may give a leg: a verdict, one attempt more, and settled if that was the last (R132). -/
structure Attempt (s : State) (l : LegIx) (r : LegResult) : Prop where
  verdict : r.verdict ≠ .none
  attempts : r.attempts = (s.results.records.at l).attempts + 1
  unsettled : r.settled = false → r.attempts ≠ 1 + s.campaign.retestLimit

/-- A trial is graded, its findings presented first, or passed over (log entry 14). -/
def Graded (y : Trial) (s t : State) : Prop :=
  t = s ∨ ∃ r ps, Attempt s y.leg r ∧ t = recordGrading y r (presentAll ps s)

theorem settles_false {v : Verdict} {attempts limit : Nat} (h : settles v attempts limit = false) :
    attempts ≠ 1 + limit := by
  rintro rfl
  simp [settles] at h

theorem gradeNoReport_graded (s : State) (y : Trial) : Graded y s (gradeNoReport s y) :=
  .inr ⟨s.noReportOf y.leg, [], ⟨nofun, rfl, settles_false (v := .noReport)⟩, gradeNoReport_eq s y⟩

theorem gradeTrial_graded (s : State) (y : Trial) : Graded y s (gradeTrial s y) := by
  unfold gradeTrial
  split
  next st x _ _ =>
    refine .inr ⟨?_, ?_, ?attempt, ?eq⟩
    case eq => rfl
    case attempt =>
      exact ⟨verdictOf_ne_none (thresholdsOf s y.leg) (floorAt s y.receiver.slot) st x (neighbourEntries s y), rfl,
        settles_false⟩
  next => exact .inl rfl

theorem recordGrading_record (y : Trial) (r : LegResult) (s : State) (l : LegIx) :
    (recordGrading y r s).results.records.at l = if l = y.leg then r else s.results.records.at l := by
  rw [recordGrading_results]
  split
  · unfold Results.count
    split <;> exact Table.at_put ..
  · exact Table.at_put ..

theorem heldLegs_recordGrading {y : Trial} (hy : y ∈ heldTrials s) (hnumbers : ((heldTrials s).map (·.number)).Nodup)
    (r : LegResult) : (heldLegs s).Perm (y.leg :: heldLegs (recordGrading y r s)) := by
  rw [heldLegs, heldLegs, heldTrials_recordGrading]
  exact (perm_cons_filter_number hnumbers hy).map _

/-- The leg graded stands among the open ones once if it is not settled, and not at all if it is (R133). -/
theorem openLegs_recordGrading {y : Trial} (hy : y ∈ heldTrials s) (hnumbers : ((heldTrials s).map (·.number)).Nodup)
    (r : LegResult) :
    (openLegs s).Perm ((if r.settled = true then [y.leg] else []) ++ openLegs (recordGrading y r s)) := by
  have hopen := (heldLegs_recordGrading hy hnumbers r).append_left s.planner.queue
  rw [openLegs, openLegs, recordGrading_queue]
  split
  · rw [List.append_nil]
    exact hopen.trans List.perm_middle
  · rw [List.append_assoc]
    exact hopen

theorem Tried.recordGrading {y : Trial} {r : LegResult} (hy : y ∈ heldTrials s)
    (hnumbers : ((heldTrials s).map (·.number)).Nodup) (hr : Attempt s y.leg r) (h : Tried counted s) :
    Tried counted (recordGrading y r s) := by
  obtain ⟨hlimit, hstored, hopen, htried⟩ := h.attempts
  have hlegs := openLegs_recordGrading hy hnumbers r
  have hnodup := hlegs.nodup_iff.1 h.legs
  have hleg := hopen y.leg (List.mem_append_right _ (List.mem_map_of_mem hy))
  have hstill {l : LegIx} (hl : l ∈ openLegs (Machine.recordGrading y r s)) :
      l ∈ openLegs s ∧ (l = y.leg → r.settled = false) := by
    refine ⟨hlegs.symm.subset (List.mem_append_right _ hl), ?_⟩
    rintro rfl
    by_contra hsettled
    rw [Bool.not_eq_false] at hsettled
    rw [if_pos hsettled] at hnodup
    exact (List.nodup_cons.1 hnodup).1 hl
  have hattempts := hr.attempts
  refine ⟨(List.nodup_append.1 hnodup).2.1, ⟨?_, ?_, fun l hl => ?_, fun l => ?_⟩, fun hcounted => ?_⟩
  · rw [recordGrading_frame]
    exact hlimit
  · rw [recordGrading_frame]
    exact hstored
  · obtain ⟨hmem, hunsettled⟩ := hstill hl
    rw [recordGrading_record, recordGrading_frame]
    split
    next heq =>
      have hlast := hr.unsettled (hunsettled heq)
      exact ⟨hunsettled heq, by dsimp only; omega⟩
    next => exact hopen l hmem
  · rw [recordGrading_record, recordGrading_frame]
    split
    · dsimp only
      omega
    · exact htried l
  · rw [recordGrading_results]
    split
    next hsettled => exact (h.counts hcounted).settle hleg.1 hsettled hr.verdict
    next hsettled => exact (h.counts hcounted).write hleg.1 (Bool.eq_false_iff.2 hsettled)

/-! ## Trials graded one after the other -/

theorem Graded.samePlan {y : Trial} (h : Graded y s t) : SamePlan s t := by
  rcases h with rfl | ⟨r, ps, -, rfl⟩
  · exact .of_planner rfl
  · exact (SamePlan.of_planner (by rw [presentAll_frame])).trans (samePlan_recordGrading ..)

/-- A trial of another number stays HELD. -/
theorem Graded.heldTrials {x y : Trial} (hx : x ∈ heldTrials s) (hne : x.number ≠ y.number) (h : Graded y s t) :
    x ∈ heldTrials t := by
  rcases h with rfl | ⟨r, ps, -, rfl⟩
  · exact hx
  · rw [heldTrials_recordGrading, List.mem_filter, decide_eq_true_iff, Machine.heldTrials, presentAll_frame]
    exact ⟨hx, hne⟩

theorem Tried.graded {y : Trial} (hy : y ∈ heldTrials s) (hnumbers : (s.planner.trials.map (·.number)).Nodup)
    (h : Tried counted s) (hg : Graded y s t) : Tried counted t := by
  rcases hg with rfl | ⟨r, ps, hr, rfl⟩
  · exact h
  · have hkept := recordsKept_presentAll ps s
    have hheld : heldTrials (presentAll ps s) = heldTrials s := by
      rw [heldTrials, presentAll_frame]
      rfl
    refine (h.kept hkept).recordGrading (hheld ▸ hy) ?_ ⟨hr.verdict, ?_, ?_⟩
    · rw [hheld]
      exact (List.filter_sublist.map _).nodup hnumbers
    · rw [hkept.results]
      exact hr.attempts
    · rw [hkept.retestLimit]
      exact hr.unsettled

/-- HELD trials of different numbers, each graded or passed over in its turn. -/
theorem Tried.foldl_graded {f : State → Trial → State} (hf : ∀ u y, Graded y u (f u y)) {ys : List Trial}
    (hys : ∀ y ∈ ys, y ∈ heldTrials s) (hnodup : (ys.map (·.number)).Nodup)
    (hnumbers : (s.planner.trials.map (·.number)).Nodup) (h : Tried counted s) : Tried counted (ys.foldl f s) := by
  induction ys generalizing s with
  | nil => exact h
  | cons y ys ih =>
    obtain ⟨hnumber, hnodup⟩ := List.nodup_cons.1 hnodup
    have hgraded := hf s y
    refine ih (fun x hx => hgraded.heldTrials (hys x (List.mem_cons_of_mem _ hx)) fun e => ?_) hnodup ?_
      (h.graded (hys y List.mem_cons_self) hnumbers hgraded)
    · exact hnumber (List.mem_map.2 ⟨x, hx, e⟩)
    · rw [hgraded.samePlan.numbers]
      exact hnumbers

theorem Tried.completeReport (n : Slot) (hnumbers : (s.planner.trials.map (·.number)).Nodup) (h : Tried counted s) :
    Tried counted (completeReport n s) := by
  have hstart : RecordsKept s (trackReference n (clearMisses n s)) := recordsKept_of_planner rfl rfl rfl rfl
  refine (h.kept hstart).foldl_graded gradeTrial_graded (fun y hy => ((mem_readyTrials _ y).1 hy).1) ?_ hnumbers
  exact ((List.filter_sublist.trans List.filter_sublist).map _).nodup hnumbers

theorem Tried.acceptRun (n : Slot) (values : List EntryValue) (hnumbers : (s.planner.trials.map (·.number)).Nodup)
    (h : Tried counted s) : Tried counted (acceptRun n values s) := by
  have hstored : Tried counted (storeRun n values s) := h.kept (recordsKept_of_planner rfl rfl rfl rfl)
  have hcomplete := Tried.completeReport (s := storeRun n values s) n hnumbers hstored
  unfold Machine.acceptRun closeIfDone
  split_ifs
  · exact hcomplete.kept (recordsKept_closeEpoch true _)
  · exact hcomplete
  · exact hstored

theorem Tried.settleGrace (hnumbers : (s.planner.trials.map (·.number)).Nodup) (h : Tried counted s) :
    Tried counted (settleGrace s) := by
  have hgraded : Tried counted ((heldTrials s).foldl gradeNoReport s) :=
    h.foldl_graded gradeNoReport_graded (fun _ => id) ((List.filter_sublist.map _).nodup hnumbers) hnumbers
  rw [settleGrace_frame]
  exact hgraded.kept (recordsKept_of_planner rfl rfl rfl rfl)

/-! ## The moves -/

/-- P7 stays in its range, whatever is stored (R73). -/
theorem p6_store (r : ParamRef) (v : Nat) {ps : Params} (h : ps.p 6 ≤ 3) : (ps.store r v).p 6 ≤ 3 := by
  cases r with
  | general i =>
    have hput : (ps.store (.general i) v).p 6 = if 6 = i then clamp (generalRange.at i) v else ps.p 6 :=
      Table.at_put ..
    rw [hput]
    split
    next hi =>
      subst hi
      have hrange : generalRange.at 6 = (0, 3) := rfl
      rw [hrange, clamp]
      omega
    next => exact h
  | threshold => exact h

theorem Tried.move (hm : Move s t) (hempty : EmptyLaw s) (hnumbers : (s.planner.trials.map (·.number)).Nodup)
    (h : Tried counted s) : Tried counted t := by
  obtain ⟨-, hstored, -⟩ := h.attempts
  cases hm with
  | aside ha => exact h.kept (recordsKept_of_planner ha.planner ha.results ha.retestLimit ha.params)
  | params _ r v =>
    obtain ⟨hlimit, -, hopen, htried⟩ := h.attempts
    exact ⟨h.legs, ⟨hlimit, p6_store r v hstored, hopen, htried⟩, h.counts⟩
  | hold | fetch => exact h.kept (recordsKept_of_planner rfl rfl rfl rfl)
  | present p => exact h.kept (recordsKept_presentAll [p] s)
  | blink hc =>
    rw [blinkLamp, if_pos hc]
    exact h.kept (recordsKept_of_planner rfl rfl rfl rfl)
  | reset =>
    have hdefault : Params.defaults.p 6 ≤ 3 := by decide
    exact tried_cleared rfl hdefault hdefault .nil
  | restart => exact tried_cleared rfl hstored hstored .nil
  | write start records hlive =>
    exact Tried.mapEdit (s := s.onMap _) hlive (h.kept (recordsKept_of_planner rfl rfl rfl rfl))
  | start => exact tried_startCampaign hstored
  | pause => exact h.kept (recordsKept_enterPaused s)
  | resume | wake => exact h.kept (recordsKept_emptied rfl (queue_subperm s) rfl rfl rfl)
  | abort => exact h.kept (recordsKept_emptied rfl List.nil_subperm rfl rfl rfl)
  | expire hc =>
    rw [waitExpires, if_pos hc]
    exact h.waitSettled.kept (recordsKept_enterDone _)
  | void cause => exact h.kept (recordsKept_enterVoid cause s)
  | plan he =>
    have hplan := recordsKept_makePlan (hempty.2 (.inr he)) h.legs
    exact h.kept (hplan.trans (recordsKept_decidePlan s))
  | announceEnd => exact h.kept ((recordsKept_withdraw s).trans (recordsKept_afterWithdrawal _))
  | phase1End he => exact h.kept (phase1Ends_advances he).recordsKept
  | gapEnd he => exact h.kept (gapEnds_advances he).recordsKept
  | phase2End he => exact h.kept (phase2Ends_advances he).recordsKept
  | deadline he => exact h.kept (deadlineRunsOut_advances he).recordsKept
  | report => exact h.acceptRun _ _ hnumbers
  | graceEnd => exact (h.settleGrace hnumbers).kept (recordsKept_closeEpoch true _)
  | voidSettle => exact h.kept (recordsKept_voidSettle s)

end

/-- The laws of O57 together. -/
structure Limited (counted : Prop) (s : State) : Prop where
  staged : Staged s
  numbers : (s.planner.trials.map (·.number)).Nodup
  tried : Tried counted s

theorem Limited.move {counted : Prop} {s t : State} (hm : Move s t) (h : Limited counted s) : Limited counted t :=
  ⟨h.staged.move hm, hm.numbers_nodup h.numbers, h.tried.move hm h.staged.empty h.numbers⟩

/-- Settles O57: every move keeps the laws, and the counts where they told the records. -/
theorem attemptsStayLimited : Obligations.AttemptsStayLimited := by
  rintro s t ⟨hrunning, hempty, ⟨hlegs, hnumbers⟩, hattempts⟩ hstep
  have hstart : Limited (CountLaw s) s := ⟨⟨hrunning, hempty⟩, hnumbers, hlegs, hattempts, (counted_iff s).2⟩
  have h : Limited (CountLaw s) t := (Moves.of_step hstep).keeps (P := Limited (CountLaw s)) Limited.move hstart
  exact ⟨⟨h.staged.running, h.staged.empty, ⟨h.tried.legs, h.numbers⟩, h.tried.attempts⟩,
    fun hcounted => (counted_iff t).1 (h.tried.counts hcounted)⟩

end Sys2Proof.Machine
end

section
/-! The start of a plan build (R85 to R87, R97, R106, R122, R148) and the lists its plan end makes (R94 to R96). -/

namespace Sys2Proof.Machine

/-! ## The start of a plan build -/

/-- The snapshot lists its probes in ascending order of address (R86). -/
theorem activeSnapshot_ascending (probes : Table NodeRecord 20) :
    ((activeSnapshot probes).map Prod.fst).Pairwise (· < ·) := by
  have haddress {nr : Slot × NodeRecord} {nc : Slot × Nat}
      (h : (if nr.2.state = .active then some (nr.1, nr.2.channels.getD 0) else none) = some nc) : nc.1 = nr.1 := by
    split at h
    · cases h
      rfl
    · cases h
  have hindices : probes.indexed.Pairwise fun a b => a.1 < b.1 := by
    rw [← List.pairwise_map (f := Prod.fst), Table.indexed_map_fst]
    exact List.pairwise_lt_finRange 20
  rw [List.pairwise_map, activeSnapshot, List.pairwise_filterMap]
  refine hindices.imp fun hlt nc hc nc' hc' => ?_
  rw [haddress hc, haddress hc']
  exact hlt

/-- Settles O24: the steps of the start, field by field, and the snapshot it takes. -/
theorem planBuildStart : Obligations.PlanBuildStart := by
  intro s t
  refine ⟨rfl, rfl, rfl, rfl, rfl, fun n => Table.at_fill .., fun n => Table.at_fill .., ?_, fun n c => ?_, rfl, rfl,
    fun n => Table.at_each ..⟩
  · exact activeSnapshot_ascending s.nodes.probes
  · exact mem_activeSnapshot s.nodes.probes n c

/-! ## The lists of a plan -/

section
variable (epoch : Nat) (trials : List Trial) (n : Slot)

/-- The trials a node drives. -/
def drivenBy : List Trial := trials.filter fun y => decide (y.driver.slot = n)

/-- The trials a node listens to. -/
def heardBy : List Trial := trials.filter fun y => decide (y.receiver.slot = n)

/-- A node's duties, drives and then listens, each numbered by its place (R94). -/
theorem dutiesOf_at (k : Nat) :
    (dutiesOf epoch trials n)[k]?
      = (((drivenBy trials n).map (driveDuty epoch) ++ (heardBy trials n).map listenDuty)[k]?).map
          fun d => { d with index := k } := by
  unfold dutiesOf
  rw [List.getElem?_map, List.getElem?_zipIdx, Option.map_map, Nat.zero_add]
  rfl

theorem length_dutiesOf :
    (dutiesOf epoch trials n).length = (drivenBy trials n).length + (heardBy trials n).length := by
  rw [dutiesOf, List.length_map, List.length_zipIdx, List.length_append, List.length_map, List.length_map]
  rfl

variable {y : Trial}

theorem dutiesOf_drive {i : Nat} (h : (drivenBy trials n)[i]? = some y) :
    (dutiesOf epoch trials n)[i]?
      = some ⟨i, y.number, y.leg, .drive y.driver.lane (patternSeed epoch y.leg)⟩ := by
  have hi : i < ((drivenBy trials n).map (driveDuty epoch)).length := by
    rw [List.length_map]
    exact (List.getElem?_eq_some_iff.1 h).1
  rw [dutiesOf_at, List.getElem?_append_left hi, List.getElem?_map, h]
  rfl

theorem dutiesOf_listen {j : Nat} (h : (heardBy trials n)[j]? = some y) :
    (dutiesOf epoch trials n)[(drivenBy trials n).length + j]?
      = some ⟨(drivenBy trials n).length + j, y.number, y.leg, .listen y.receiver.lane y.listen⟩ := by
  have hlength : ((drivenBy trials n).map (driveDuty epoch)).length = (drivenBy trials n).length := List.length_map _
  rw [dutiesOf_at, List.getElem?_append_right (by rw [hlength]; exact Nat.le_add_right ..), hlength,
    Nat.add_sub_cancel_left, List.getElem?_map, h]
  rfl

/-- One entry for each drive duty, and one for each lane of each listen set, marked (R95). -/
theorem entriesOf_dutiesOf_eq :
    entriesOf (dutiesOf epoch trials n)
      = (drivenBy trials n).map (fun y => (⟨.drive, y.driver.lane, y.number⟩ : Entry))
        ++ (heardBy trials n).flatMap fun y => y.listen.map fun l =>
            (⟨if l = y.receiver.lane then .expected else .neighbour, l, y.number⟩ : Entry) := by
  rw [entriesOf_dutiesOf, List.flatMap_append, List.flatMap_map, List.flatMap_map, List.map_eq_flatMap]
  rfl

end

/-- Settles O30: the lists of the plan that proceeds to ANNOUNCE are those of the trials its scan admitted. -/
theorem planEndLists : Obligations.PlanEndLists := by
  intro s n hheld he hvoid hp hsome
  have hrun : exec .planEnd s = .next (beginAnnounce (makePlan s)) := by
    rw [exec_planEnd hheld he, decidePlan_announce (s := makePlan s) hvoid hsome hp]
  have hduties : (beginAnnounce (makePlan s)).planner.duties.at n = dutiesOf s.epoch.number (plannedTrials s) n :=
    Table.at_tabulate ..
  have hentries : (beginAnnounce (makePlan s)).planner.entries.at n
      = entriesOf (dutiesOf s.epoch.number (plannedTrials s) n) := Table.at_tabulate ..
  refine ⟨_, hrun, ?_⟩
  dsimp only
  rw [hduties, hentries]
  exact ⟨length_dutiesOf _ _ n, fun i y => dutiesOf_drive _ _ n, fun j y => dutiesOf_listen _ _ n,
    entriesOf_dutiesOf_eq _ _ n⟩

end Sys2Proof.Machine
end

section
/-! The walk of a REPORT (R108, R178): the entries it cuts are read by their sizes. -/

namespace Sys2Proof.Machine

/-- The bytes of an entry in a REPORT (R178). -/
def Entry.size (e : Entry) : Nat := if e.kind = .drive then 2 else 6

theorem Entry.size_pos (e : Entry) : 0 < e.size := by
  unfold Entry.size
  split <;> decide

/-- A whole entry is cut off the front of the bytes, its size by its kind (R108). -/
theorem cutEntries_whole {e : Entry} {bytes : List Byte} (es : List Entry) (h : e.size ≤ bytes.length) :
    ∃ r, cutEntries (e :: es) bytes = (cutEntries es (bytes.drop e.size)).map (r :: ·) := by
  unfold Entry.size at h ⊢
  split_ifs at h ⊢ with hkind
  · obtain _ | ⟨b, _ | ⟨st, rest⟩⟩ := bytes
    · simp at h
    · simp at h
    · exact ⟨.drive b st, by simp [cutEntries, hkind]⟩
  · match bytes, h with
    | b :: q1 :: q0 :: d1 :: d0 :: er :: rest, _ =>
      exact ⟨.listen b (num16 q1 q0) (num16 d1 d0) er.toNat, by
        rcases hk : e.kind with _ | _ | _ <;> simp_all [cutEntries]⟩

/-- Bytes that end part of the way through an entry are not cut (R108). -/
theorem cutEntries_short {e : Entry} {bytes : List Byte} (es : List Entry) (hne : bytes ≠ [])
    (h : bytes.length < e.size) : cutEntries (e :: es) bytes = none := by
  obtain _ | ⟨b, bs⟩ := bytes
  · exact absurd rfl hne
  · unfold cutEntries
    unfold Entry.size at h
    split
    next hkind => simp [hkind] at h
    next => rfl
    next hkind =>
      simp only [if_neg hkind, List.length_cons] at h
      omega
    next => rfl

/-- k entries are cut exactly where the sizes of the first k fill the bytes (R108). -/
theorem cutEntries_length_iff (es : List Entry) (bytes : List Byte) (k : Nat) :
    (∃ run, cutEntries es bytes = some run ∧ run.length = k)
      ↔ k ≤ es.length ∧ ((es.take k).map Entry.size).sum = bytes.length := by
  induction es generalizing bytes k with
  | nil => cases bytes <;> simp [cutEntries, eq_comm]
  | cons e es ih =>
    have hpos := e.size_pos
    by_cases hne : bytes = []
    · subst hne
      cases k with
      | zero => simp [cutEntries]
      | succ k => simp [cutEntries, hpos.ne']
    · have hlength := List.length_pos_iff.2 hne
      rcases Nat.lt_or_ge bytes.length e.size with hshort | hwhole
      · rw [cutEntries_short es hne hshort]
        cases k with
        | zero => simp [hlength.ne]
        | succ k =>
          simp only [reduceCtorEq, false_and, exists_false, false_iff, List.take_succ_cons, List.map_cons,
            List.sum_cons]
          omega
      · obtain ⟨r, hr⟩ := cutEntries_whole es hwhole
        rw [hr]
        cases k with
        | zero => simp [hlength.ne]
        | succ k =>
          have hrest := ih (bytes.drop e.size) k
          rw [List.length_drop] at hrest
          simp only [Option.map_eq_some_iff, exists_exists_and_eq_and, List.length_cons, Nat.add_right_cancel_iff,
            hrest, List.take_succ_cons, List.map_cons, List.sum_cons]
          omega

/-- The walk is the cut from its first index on, of one entry at least (R108). -/
theorem walk_eq_some {entries : List Entry} {first : Nat} {bytes : List Byte} {run : List RawEntry} :
    walk entries first bytes = some run ↔ cutEntries (entries.drop first) bytes = some run ∧ run ≠ [] := by
  unfold walk
  split
  next r rs h =>
    rw [h, Option.some.injEq, iff_self_and]
    rintro rfl
    exact List.cons_ne_nil r rs
  next h => exact ⟨nofun, fun ⟨hcut, hne⟩ => by
    obtain ⟨r, rs, rfl⟩ := List.exists_cons_of_ne_nil hne
    exact absurd hcut (h r rs)⟩

/-- Settles O35: the walk is the cut of at least one entry, and the cut goes by the sizes. -/
theorem walkReadsSizes : Obligations.WalkReadsSizes := by
  intro entries first bytes k
  have hcut := cutEntries_length_iff (entries.drop first) bytes k
  simp only [walk_eq_some]
  constructor
  · rintro ⟨run, ⟨hrun, hne⟩, hk⟩
    exact ⟨hk ▸ List.length_pos_iff.2 hne, hcut.1 ⟨run, hrun, hk⟩⟩
  · rintro ⟨hpos, hsizes⟩
    obtain ⟨run, hrun, hk⟩ := hcut.2 hsizes
    exact ⟨run, ⟨hrun, List.length_pos_iff.1 (hk ▸ hpos)⟩, hk⟩

end Sys2Proof.Machine
end

section
/-! FETCH and REPORT (R98, R100, R101, R107 to R112): the tests in their order, and the run that is stored. -/

namespace Sys2Proof.Machine

/-- A request of an ACTIVE probe, by what its owner answers (R12). -/
theorem exec_probe_answered {k : RequestKind} {n : Slot} {header : Byte} {payload : List Byte} {s t : State}
    {a : Answer} (hmay : probeMay n header s) (hp : payload.length ≤ 30) (hk : permits (.probe n) k = true)
    (ha : ownerAnswers k (.probe n) payload (heard header k.byte payload s) = (t, a)) :
    exec (requestRow k header payload) s = .next (replied header a t) := by
  rw [exec_probe hmay hp hk, ha]

section
variable {n : Slot} {s : State} {e1 e0 index : Byte} {code : ReplyCode}

/-! ## FETCH (R98, R100, R101) -/

theorem answerFetch_malformed {payload : List Byte} (h : payload.length ≠ 3) :
    answerFetch n payload s = (s, .refusal .malformed) := by
  unfold answerFetch
  split
  · simp at h
  · rfl

theorem answerFetch_epoch (h : epochRefusal (num16 e1 e0) s.epoch = some code) :
    answerFetch n [e1, e0, index] s = (s, .refusal code) := by
  simp only [answerFetch, h]

section
variable (h : epochRefusal (num16 e1 e0) s.epoch = none)
include h

theorem answerFetch_planning (he : s.epoch.state = .planning) :
    answerFetch n [e1, e0, index] s = (s, .refusal .wait) := by
  simp [answerFetch, h, he]

theorem answerFetch_notAnnounced (hp : s.epoch.state ≠ .planning) (ha : s.epoch.state ≠ .announce) :
    answerFetch n [e1, e0, index] s = (s, .refusal .state) := by
  simp [answerFetch, h, hp, ha]

theorem answerFetch_noDuty (he : s.epoch.state = .announce) (hd : s.planner.duties.at n = []) :
    answerFetch n [e1, e0, index] s = (s, .refusal .noDuty) := by
  simp [answerFetch, h, he, hd]

theorem answerFetch_range (he : s.epoch.state = .announce) (hd : s.planner.duties.at n ≠ [])
    (hi : (s.planner.duties.at n).length ≤ index.toNat) :
    answerFetch n [e1, e0, index] s = (s, .refusal .range) := by
  simp [answerFetch, h, he, hd, hi]

theorem answerFetch_serves {d : Duty} (he : s.epoch.state = .announce)
    (hi : (s.planner.duties.at n)[index.toNat]? = some d) :
    answerFetch n [e1, e0, index] s = serveDuty n d index.toNat s := by
  have hd : s.planner.duties.at n ≠ [] := by
    intro hnone
    simp [hnone] at hi
  simp [answerFetch, h, he, hd, hi]

end

/-! ## REPORT (R98, R107 to R110) -/

/-- In COLLECTING and in GRACE an epoch is in hand, announced and not voided (R97). -/
theorem reporting_state (he : s.epoch.state = .collecting ∨ s.epoch.state = .grace) :
    s.epoch.state ≠ .none ∧ s.epoch.state ≠ .announce ∧ s.epoch.state ≠ .void := by
  rcases he with he | he <;> simp [he]

variable {first : Byte} {bytes : List Byte}

theorem answerReport_malformed {payload : List Byte} (h : payload.length < 3) :
    answerReport n payload s = (s, .refusal .malformed) := by
  unfold answerReport
  split
  · simp at h
    omega
  · rfl

theorem answerReport_epoch (h : epochRefusal (num16 e1 e0) s.epoch = some code) :
    answerReport n (e1 :: e0 :: first :: bytes) s = (s, .refusal code) := by
  simp only [answerReport, h]

section
variable (h : epochRefusal (num16 e1 e0) s.epoch = none)
include h

theorem answerReport_noDuty (hd : s.planner.duties.at n = []) :
    answerReport n (e1 :: e0 :: first :: bytes) s = (s, .refusal .noDuty) := by
  simp [answerReport, h, hd]

variable (hd : s.planner.duties.at n ≠ [])
include hd

theorem answerReport_notReporting (he : ¬(s.epoch.state = .collecting ∨ s.epoch.state = .grace)) :
    answerReport n (e1 :: e0 :: first :: bytes) s = (s, .refusal .state) := by
  simp [answerReport, h, hd, not_or.1 he]

variable (he : s.epoch.state = .collecting ∨ s.epoch.state = .grace)
include he

theorem answerReport_barred
    (hb : s.epoch.released.at n = true ∨ (s.nodes.probes.at n).fetchComplete = false) :
    answerReport n (e1 :: e0 :: first :: bytes) s = (s, .refusal .state) := by
  obtain ⟨-, ha, -⟩ := reporting_state he
  simp only [answerReport, h, List.isEmpty_iff, if_neg hd, if_neg (not_not.2 he), if_pos (standing_barred hd ha hb)]

theorem answerReport_runs (hr : s.epoch.released.at n = false) (hf : (s.nodes.probes.at n).fetchComplete = true)
    (hc : (s.nodes.probes.at n).cursor ≤ (s.planner.entries.at n).length) :
    answerReport n (e1 :: e0 :: first :: bytes) s = reportRun n first.toNat bytes s := by
  obtain ⟨-, ha, -⟩ := reporting_state he
  have hstanding : standing s n = some .owed ∨ standing s n = some .complete :=
    hc.lt_or_eq.imp (standing_reporting hd ha hr hf).1 (standing_reporting hd ha hr hf).2
  simp only [answerReport, h, List.isEmpty_iff, if_neg hd, if_neg (not_not.2 he), if_neg (not_not.2 hstanding)]

end

theorem reportAtCursor_malformed
    (hw : walk (s.planner.entries.at n) (s.nodes.probes.at n).cursor bytes = none) :
    reportAtCursor n bytes s = (s, .refusal .malformed) := by
  simp only [reportAtCursor, hw]

section
variable {run : List RawEntry} (hw : walk (s.planner.entries.at n) (s.nodes.probes.at n).cursor bytes = some run)
include hw

theorem reportAtCursor_mismatch
    (hl : ¬lanesMatch (s.planner.entries.at n) (s.nodes.probes.at n).cursor run = true) :
    reportAtCursor n bytes s = (s, .refusal .mismatch) := by
  simp only [reportAtCursor, hw, if_pos hl]

variable (hl : lanesMatch (s.planner.entries.at n) (s.nodes.probes.at n).cursor run = true)
include hl

theorem reportAtCursor_range (hv : ∃ r ∈ run, r.value = none) :
    reportAtCursor n bytes s = (s, .refusal .range) := by
  simp only [reportAtCursor, hw, if_neg (not_not.2 hl), (runValues_none run).2 hv]

theorem reportAtCursor_accepts {values : List EntryValue} (hv : run.map RawEntry.value = values.map some) :
    reportAtCursor n bytes s
      = (acceptRun n values s,
         runReply .ok ((s.nodes.probes.at n).cursor + values.length) (s.planner.entries.at n).length) := by
  simp only [reportAtCursor, hw, if_neg (not_not.2 hl), (runValues_some run values).2 hv]

end

end

/-! ## The tests in order -/

/-- Settles O32: the tests of a FETCH in order, and the duty record sent. -/
theorem fetchServes : Obligations.FetchServes := by
  intro n header e1 e0 index s hmay named h duties refused current
  have run {payload : List Byte} {t : State} {a : Answer} (hp : payload.length ≤ 30)
      (ha : answerFetch n payload (heard header 0x40#8 payload s) = (t, a)) :
      exec (.fetch header payload) s = .next (replied header a t) :=
    exec_probe_answered (k := .fetch) hmay hp rfl ha
  have refuse {code : ReplyCode} (ha : answerFetch n [e1, e0, index] h = (h, .refusal code)) : refused code :=
    run (by simp) ha
  have goesOn {place : EpochState} (hc : current) (he : s.epoch.state = place) (hp : place ≠ .void) :
      epochRefusal named s.epoch = none := epochRefusal_current hc (he ▸ hp)
  refine ⟨fun payload hp hlen => run hp (answerFetch_malformed hlen),
    fun hc hl => refuse (answerFetch_epoch (epochRefusal_closed hc hl)),
    fun hc hl => refuse (answerFetch_epoch (epochRefusal_voided hc hl)),
    fun hc hl => refuse (answerFetch_epoch (epochRefusal_stale hc hl)),
    fun hc he => refuse (answerFetch_epoch (epochRefusal_void hc he)),
    fun hc he => refuse (answerFetch_planning (goesOn hc he nofun) he), fun hc he => ?state,
    fun hc he hd => refuse (answerFetch_noDuty (goesOn hc he nofun) he hd),
    fun hc he hd hi => refuse (answerFetch_range (goesOn hc he nofun) he hd hi), fun d hc he hi => ?serves⟩
  case state =>
    have hplace : s.epoch.state ≠ .void ∧ s.epoch.state ≠ .planning ∧ s.epoch.state ≠ .announce := by
      revert he
      cases s.epoch.state <;> simp
    obtain ⟨hvoid, hplan, hann⟩ := hplace
    exact refuse (answerFetch_notAnnounced (epochRefusal_current hc hvoid) hplan hann)
  case serves =>
    have hserved : answerFetch n [e1, e0, index] h = serveDuty n d index.toNat h :=
      answerFetch_serves (s := h) (goesOn hc he nofun) he hi
    refine ⟨fun hmore => run (by simp) (hserved.trans ?_), fun hlast => run (by simp) (hserved.trans ?_)⟩
    · exact congrArg (·, _) (if_neg hmore)
    · exact congrArg (·, _) (if_pos hlast)

/-- Settles O36: the tests before the cursor in order, then the run at the cursor and the run elsewhere. -/
theorem reportRefusals : Obligations.ReportRefusals := by
  intro n header s hmay
  have run {payload : List Byte} {t : State} {a : Answer} (hp : payload.length ≤ 30)
      (ha : answerReport n payload (heard header 0x41#8 payload s) = (t, a)) :
      exec (.report header payload) s = .next (replied header a t) :=
    exec_probe_answered (k := .report) hmay hp rfl ha
  refine ⟨fun payload hlen => run (by omega) (answerReport_malformed hlen), fun e1 e0 first bytes hbytes => ?_⟩
  intro payload named cursor entries answered refused current reporting
  have answer {a : Answer} (ha : answerReport n payload (heard header 0x41#8 payload s)
      = (heard header 0x41#8 payload s, a)) : answered a := run (Nat.add_le_add_right hbytes 3) ha
  refine ⟨fun hc hl => answer (answerReport_epoch (epochRefusal_closed hc hl)),
    fun hc hl => answer (answerReport_epoch (epochRefusal_voided hc hl)),
    fun hc hl => answer (answerReport_epoch (epochRefusal_stale hc hl)),
    fun hc he => answer (answerReport_epoch (epochRefusal_void hc he)),
    fun hc hv hd => answer (answerReport_noDuty (epochRefusal_current hc hv) hd),
    fun hc hv hd => ⟨fun he => answer (answerReport_notReporting (epochRefusal_current hc hv) hd he),
      fun he hb => answer (answerReport_barred (epochRefusal_current hc hv) hd he hb),
      fun he hr hf hcursor => ?_⟩⟩
  have atRun {a : Answer} (ha : reportRun n first.toNat bytes (heard header 0x41#8 payload s)
      = (heard header 0x41#8 payload s, a)) : answered a :=
    answer ((answerReport_runs (s := heard ..) (epochRefusal_current hc hv) hd he hr hf hcursor).trans ha)
  have atCursor {a : Answer} (hfirst : first.toNat = cursor)
      (ha : reportAtCursor n bytes (heard header 0x41#8 payload s) = (heard header 0x41#8 payload s, a)) :
      answered a := atRun ((if_pos hfirst).trans ha)
  refine ⟨fun hfirst hw => atCursor hfirst (reportAtCursor_malformed hw), fun hfirst run hw => ?_, fun hfirst => ?_⟩
  · intro alike
    have halike : lanesMatch entries cursor run = true ↔ alike := lanesMatch_iff entries cursor run
    exact ⟨fun hl => atCursor hfirst (reportAtCursor_mismatch hw (mt halike.1 hl)),
      fun hl hv => atCursor hfirst (reportAtCursor_range hw (halike.2 hl) hv)⟩
  · intro repeats
    have hrepeats : endsAtCursor entries first.toNat cursor bytes = true ↔ repeats := endsAtCursor_iff ..
    have elsewhere {a : Answer} (ha : reportElsewhere n first.toNat bytes (heard header 0x41#8 payload s) = a) :
        answered a := atRun ((if_neg hfirst).trans (congrArg _ ha))
    exact ⟨fun hyes => elsewhere (if_pos (hrepeats.2 hyes)), fun hno => elsewhere (if_neg (mt hrepeats.1 hno))⟩

/-! ## The completed report (R109, R111, R112) -/

section
variable {n : Slot} {values : List EntryValue} {s : State}

theorem acceptRun_more (h : (s.nodes.probes.at n).cursor + values.length ≠ (s.planner.entries.at n).length) :
    acceptRun n values s = storeRun n values s := if_neg h

theorem acceptRun_last (h : (s.nodes.probes.at n).cursor + values.length = (s.planner.entries.at n).length) :
    acceptRun n values s = closeIfDone (completeReport n (storeRun n values s)) := if_pos h

/-- The trials made ready are the HELD ones of which both nodes are COMPLETE, in ascending number (R111). -/
theorem readyTrials_eq (s : State) :
    readyTrials s = (heldTrials s).filter fun y =>
      decide (standing s y.driver.slot = some .complete ∧ standing s y.receiver.slot = some .complete) :=
  List.filter_congr fun y _ => by rw [Bool.eq_iff_iff]; simp [isComplete]

/-- The early close stands on the nodes still OWED (R112). -/
theorem closeIfDone_eq (s : State) [Decidable (∃ m, standing s m = some .owed)] :
    closeIfDone s = if ∃ m, standing s m = some .owed then s else closeEpoch true s := by
  have hnone : noneOwed s = true ↔ ¬∃ m, standing s m = some .owed := by rw [noneOwed_iff, not_exists]
  split_ifs with howed
  · exact if_neg (mt hnone.1 (not_not.2 howed))
  · exact if_pos (hnone.2 howed)

/-- A node's last run stored, its misses cleared and its samples tracked (R109, R111, R120). -/
theorem trackReference_storeRun
    (h : (s.nodes.probes.at n).cursor + values.length = (s.planner.entries.at n).length) :
    trackReference n (clearMisses n (storeRun n values s)) = { s with
      epoch := { s.epoch with received := s.epoch.received.put n (s.epoch.received.at n ++ values) }
      nodes := { s.nodes with
        probes := s.nodes.probes.put n
          { s.nodes.probes.at n with cursor := (s.planner.entries.at n).length, misses := 0 } }
      grading := { s.grading with
        refs := s.grading.refs.put n
          ((samplesOf (s.epoch.received.at n ++ values)).foldl (trackSample (s.p 8) (s.p 9))
            (s.grading.refs.at n)) } } := by
  rw [storeRun_frame, clearMisses_frame]
  simp only [trackReference, State.onGrading, Table.at_put_self, Table.put_put, h]
  rfl

end

/-- Settles O37: the run accepted, with entries left and at the end of the list. -/
theorem reportStoresAndCompletes : Obligations.ReportStoresAndCompletes := by
  intro n header e1 e0 first bytes run values s hmay hbytes hnamed he hd hr hf old entries hfirst hw hlanes hvalues
    payload answer stored
  set u := heard header 0x41#8 payload s
  obtain ⟨hopen, -, hvoid⟩ := reporting_state he
  obtain ⟨hfits, -⟩ := walk_values hw ((runValues_some run values).2 hvalues)
  have hanswer : answerReport n payload u = (acceptRun n values u, answer) := by
    rw [answerReport_runs (s := u) (epochRefusal_current ⟨hnamed, hopen⟩ hvoid) hd he hr hf
      (Nat.le_of_add_right_le hfits)]
    exact (if_pos hfirst).trans
      (reportAtCursor_accepts (s := u) hw ((lanesMatch_iff entries old.cursor run).2 hlanes) hvalues)
  have hrow : exec (.report header payload) s = .next (replied header answer (acceptRun n values u)) :=
    exec_probe_answered (k := .report) hmay (Nat.add_le_add_right hbytes 3) rfl hanswer
  refine ⟨fun hmore => ?_, fun hlast => ?_⟩
  · rw [hrow, acceptRun_more (s := u) hmore.ne]
    rfl
  · intro move done ready graded
    have hdone : trackReference n (clearMisses n (storeRun n values u)) = done :=
      trackReference_storeRun (s := u) hlast
    have hgraded : completeReport n (storeRun n values u) = graded := by
      have hready : readyTrials done = ready := readyTrials_eq done
      rw [completeReport, hdone, hready]
    rw [hrow, acceptRun_last (s := u) hlast, hgraded, closeIfDone_eq]

end Sys2Proof.Machine
end

section
/-! The phases (R104, R107, R113), the Rail Monitor (R139 to R142) and the Timebase Unit (R145 to R148). -/

namespace Sys2Proof.Machine

/-! ## The rows outside a reset -/

section
variable {s : State} (h : s.held = none)
include h

theorem exec_phase1End : exec .phase1End s = .next (phase1Ends s) := congrArg _ (unlessHeld_of_none h)

theorem exec_gapEnd : exec .gapEnd s = .next (gapEnds s) := congrArg _ (unlessHeld_of_none h)

theorem exec_phase2End : exec .phase2End s = .next (phase2Ends s) := congrArg _ (unlessHeld_of_none h)

theorem exec_reportDeadline : exec .reportDeadline s = .next (deadlineRunsOut s) :=
  congrArg _ (unlessHeld_of_none h)

theorem exec_rsenseDeparture (below : Bool) : exec (.rsenseDeparture below) s = .next (comparatorChanges below s) :=
  congrArg _ (if_neg (by simp [h]))

theorem exec_sagFilterExpiry : exec .sagFilterExpiry s = .next (sagFilterExpires s) :=
  congrArg _ (unlessHeld_of_none h)

theorem exec_refclkEdge : exec .refclkEdge s = .next (refclkEdge s) := congrArg _ (unlessHeld_of_none h)

theorem exec_clockLoss : exec .clockLoss s = .next (clockLost s) := congrArg _ (unlessHeld_of_none h)

theorem exec_returnTimerExpiry : exec .returnTimerExpiry s = .next (returnTimerExpires s) :=
  congrArg _ (unlessHeld_of_none h)

end

/-! ## The phases -/

section
variable {s : State}

theorem beginPhase2_frame (s : State) :
    beginPhase2 s = { s with epoch := { s.epoch with
      state := .phase2, qstb := s.epoch.driveFirst, dstb := !s.epoch.driveFirst
      timer := some ((if s.epoch.driveFirst then s.p 1 else s.p 2) * 100) } } := rfl

theorem phase1Ends_noGap (he : s.epoch.state = .phase1) (hp : s.p 3 = 0) :
    phase1Ends s = beginPhase2 (strobesLow s) := by rw [phase1Ends, if_pos he, if_pos hp]

theorem phase1Ends_gap (he : s.epoch.state = .phase1) (hp : s.p 3 ≠ 0) :
    phase1Ends s = beginGap (strobesLow s) := by rw [phase1Ends, if_pos he, if_neg hp]

end

/-- Settles O34: each end of a phase, of the gap and of the deadline in its state. -/
theorem phasesRun : Obligations.PhasesRun := by
  intro s hheld phase2
  refine ⟨fun he => ⟨fun hp => ?_, fun hp => ?_⟩, fun he => ?_, fun he => ?_, fun he => ?_⟩
  · rw [exec_phase1End hheld, phase1Ends_noGap he hp, beginPhase2_frame]
    rfl
  · rw [exec_phase1End hheld, phase1Ends_gap he hp]
    rfl
  · rw [exec_gapEnd hheld, gapEnds, if_pos he, beginPhase2_frame]
  · rw [exec_phase2End hheld, phase2Ends, if_pos he]
    rfl
  · rw [exec_reportDeadline hheld, deadlineRunsOut, if_pos he]
    rfl

/-! ## The Rail Monitor -/

section
variable {s : State}

theorem disagrees_iff (state : RailState) (below : Bool) :
    disagrees state below = true ↔ (state = .ok ↔ below = true) := by
  cases state <;> cases below <;> simp [disagrees]

theorem Rail.output_departs {r : Rail} {below : Bool} (p14 : Nat) (h : r.below ≠ below) :
    r.output below p14 = { r with
      below := below, filter := if (r.state = .ok ↔ below = true) then some p14 else none } := by
  rw [Rail.output, if_neg h]
  simp only [disagrees_iff]

theorem sagFilterExpires_timed (h : s.rail.filter ≠ none) : sagFilterExpires s = railChanges s :=
  if_pos (Option.isSome_iff_ne_none.2 h)

theorem railChanges_rises (h : s.rail.state = .sag) :
    railChanges s = { s with rail := { s.rail with state := .ok, filter := none } } := by
  unfold railChanges
  rw [h]
  rfl

/-- The sag counted, before it is signalled (R141). -/
def sagCounted (s : State) : State :=
  s.onRail fun r => { r with state := .sag, filter := none, sagCount := satInc 65535 r.sagCount }

theorem railChanges_sags (h : s.rail.state = .ok) : railChanges s = signalSag (sagCounted s) := by
  unfold railChanges
  rw [h]
  rfl

/-- A sag voids an epoch that runs its phases or its gap, and no other (R141, R142). -/
theorem signalSag_eq (s : State) :
    signalSag s = if s.epoch.state ∈ [EpochState.phase1, .gap, .phase2] then enterVoid .rail s else s := by
  unfold signalSag
  cases s.epoch.state <;> simp

/-- A void with cause RAIL in a RUNNING campaign, causes and blink apart from what it counts (R71, R116, R142). -/
theorem enterVoid_rail_campaign (h : s.campaign.state = .running) :
    (enterVoid .rail s).campaign = { s.campaign with
      causes := { s.campaign.causes with
        rail := s.campaign.causes.rail || decide (s.p 14 ≤ satInc 255 s.rail.consecutive) }
      lamps := (enterVoid .rail s).campaign.lamps, blinkTimer := none } := by
  unfold enterVoid countVoid
  simp only [placeRailCause_frame]
  rw [present, if_pos (by simp [h, CampaignState.live])]
  simp [showLamps, State.onCampaign, State.onFindings, State.onRail, State.onEpoch, State.p, h]
  rfl

end

/-- Settles O43: the filter by the comparator, then the rail state that changes, by what the epoch runs. -/
theorem railSupervision : Obligations.RailSupervision := by
  intro s hheld
  refine ⟨fun below hne => ?departs, fun hf hs => ?rises, fun hf hs he => ?counts, fun hf hs he hc => ?voids⟩
  case departs =>
    rw [exec_rsenseDeparture hheld, comparatorChanges, State.onRail, Rail.output_departs _ hne]
  case rises => rw [exec_sagFilterExpiry hheld, sagFilterExpires_timed hf, railChanges_rises hs]
  case counts =>
    rw [exec_sagFilterExpiry hheld, sagFilterExpires_timed hf, railChanges_sags hs, signalSag_eq]
    exact congrArg _ (if_neg he)
  case voids =>
    have hrow : exec .sagFilterExpiry s = .next (enterVoid .rail (sagCounted s)) := by
      rw [exec_sagFilterExpiry hheld, sagFilterExpires_timed hf, railChanges_sags hs, signalSag_eq]
      exact congrArg _ (if_pos he)
    have hlive : (sagCounted s).campaign.state.live = true := congrArg CampaignState.live hc
    obtain ⟨hrail, hfindings, -⟩ := enterVoid_rail hlive
    have hframe := enterVoid_frame .rail (sagCounted s)
    refine ⟨_, hrow, hrail, ?_, hfindings, enterVoid_rail_campaign (s := sagCounted s) hc, ?_⟩
    · rw [hframe]
      rfl
    · rw [hframe]
      rfl

/-! ## The Timebase Unit -/

theorem presenceEvents_spells {pins : Table PresenceFilter 20} {c : Instr} (h : c ∈ presenceEvents pins) :
    ∃ n, c = .presenceLoss n ∨ c = .presenceSeated n := by
  simp only [presenceEvents, List.mem_flatMap, mem_dueNow, presenceEvent] at h
  obtain ⟨nf, -, -, rfl⟩ := h
  exact ⟨nf.1, by split <;> simp⟩

/-- CLOCK_LOSS falls due exactly where the gap since the last edge of REFCLK runs out (R146). -/
theorem clockLoss_mem_eventsNow (s : State) : .clockLoss ∈ eventsNow s ↔ s.timebase.gap = some 1 := by
  have hpresence : Instr.clockLoss ∉ presenceEvents s.nodes.presence := fun h => by
    obtain ⟨n, hn | hn⟩ := presenceEvents_spells h <;> cases hn
  have hepoch : Instr.clockLoss ∉ if runsOut s.epoch.timer then epochTimerEvent s.epoch.state else [] := by
    split
    · cases s.epoch.state <;> simp [epochTimerEvent]
    · simp
  simp only [eventsNow, List.mem_append, mem_dueNow]
  simp [hpresence, hepoch]

section
variable {s : State}

theorem loseClock_eq (s : State) :
    loseClock s = { s with
      timebase := s.timebase.lost
      epoch := { s.epoch with
        backup := s.epoch.backup || decide (s.timebase.source = .reference
          ∧ s.epoch.state ∈ [EpochState.phase1, .gap, .phase2]) } } := by
  unfold loseClock
  cases hsource : s.timebase.source with
  | reference =>
    simp [markSwitch, State.onEpoch, State.onTimebase, beq_eq_decide, Bool.or_assoc]
  | backup => simp [State.onTimebase]

theorem CampaignState.returnsAtOnce_iff (c : CampaignState) :
    c.returnsAtOnce = true ↔ c ≠ .running ∧ c ≠ .paused := by
  cases c <;> simp [CampaignState.returnsAtOnce]

theorem runReachesP16_backup (h : s.timebase.source = .backup) :
    runReachesP16 s = { s with timebase := { s.timebase with returnTimer := none, returnPending := true } } := by
  simp [runReachesP16, State.onTimebase, h]

theorem returnTimerExpires_waits (ht : s.timebase.returnTimer ≠ none)
    (hc : s.campaign.state = .running ∨ s.campaign.state = .paused) :
    returnTimerExpires s = runReachesP16 s := by
  have hlater : ¬s.campaign.state.returnsAtOnce = true := by
    rw [CampaignState.returnsAtOnce_iff, ← not_or, not_not]
    exact hc
  rw [returnTimerExpires, if_pos (Option.isSome_iff_ne_none.2 ht), if_neg hlater]

theorem returnTimerExpires_returns (ht : s.timebase.returnTimer ≠ none) (hr : s.campaign.state ≠ .running)
    (hp : s.campaign.state ≠ .paused) : returnTimerExpires s = applyReturn (runReachesP16 s) := by
  rw [returnTimerExpires, if_pos (Option.isSome_iff_ne_none.2 ht),
    if_pos ((CampaignState.returnsAtOnce_iff _).2 ⟨hr, hp⟩)]

end

/-- Settles O44: the edges and the gap they start, the loss, and the clean run's end by campaign state. -/
theorem timebaseSupervision : Obligations.TimebaseSupervision := by
  intro s hheld
  refine ⟨fun hrun => ?begins, fun hrun => ?again, fun hpending left hgap => ?gap, fun hrun => ?loss,
    fun ht hs => ⟨fun hc => ?waits, fun hr hp => ?returns⟩⟩
  case begins =>
    rw [exec_refclkEdge hheld]
    simp [refclkEdge, State.onTimebase, hrun, Config.clockGapMicros]
  case again =>
    rw [exec_refclkEdge hheld]
    simp [refclkEdge, State.onTimebase, hrun, Config.clockGapMicros]
  case gap =>
    refine ⟨tick s, ?_, congrArg countDown hgap, rfl, rfl, ?_⟩
    · rw [step_nil s hpending, idleStep, unlessHeld_of_none hheld]
    · rw [tick_pending_mem hpending, clockLoss_mem_eventsNow, hgap, Option.some.injEq]
  case loss =>
    rw [exec_clockLoss hheld, clockLost, if_pos hrun, loseClock_eq]
    rfl
  case waits =>
    rw [exec_returnTimerExpiry hheld, returnTimerExpires_waits ht hc, runReachesP16_backup hs]
  case returns =>
    rw [exec_returnTimerExpiry hheld, returnTimerExpires_returns ht hr hp, runReachesP16_backup hs]
    rfl

end Sys2Proof.Machine
end

section
/-! The law of the references (R72, R107, R119, R121): every move keeps every slot reference and every snapshot within
0 to 16,776,960, the parameters within their ranges, and the quiet integrals received within 0 to 65535. -/

namespace Sys2Proof.Machine

/-! ## The samples of a report (R107, R120) -/

theorem num16_le (hi lo : Byte) : num16 hi lo ≤ 65535 := by
  have := hi.isLt
  have := lo.isLt
  unfold num16
  omega

/-- Every listen entry that a report's bytes spell has a quiet integral of two bytes (R178). -/
theorem cutEntries_quiet {entries : List Entry} {bytes : List Byte} {run : List RawEntry}
    (h : cutEntries entries bytes = some run) (lane : Byte) (q d e : Nat) (hmem : RawEntry.listen lane q d e ∈ run) :
    q ≤ 65535 := by
  fun_induction cutEntries entries bytes generalizing run with
  | case1 =>
    obtain rfl := Option.some.inj h
    cases hmem
  | case3 _ _ _ _ _ _ ih =>
    obtain ⟨rest, hrest, rfl⟩ := Option.map_eq_some_iff.1 h
    rcases List.mem_cons.1 hmem with heq | hmem
    · cases heq
    · exact ih hrest hmem
  | case5 _ _ _ q1 q0 _ _ _ _ _ ih =>
    obtain ⟨rest, hrest, rfl⟩ := Option.map_eq_some_iff.1 h
    rcases List.mem_cons.1 hmem with heq | hmem
    · obtain ⟨-, rfl, -, -⟩ := RawEntry.listen.inj heq
      exact num16_le q1 q0
    · exact ih hrest hmem
  | case2 | case4 | case6 => cases h

/-- Every sample among received values is within 0 to 65535 (R107). -/
def SamplesInRange (values : List EntryValue) : Prop := ∀ q ∈ samplesOf values, q ≤ 65535

theorem samplesInRange_nil : SamplesInRange [] := nofun

theorem mem_samplesOf {values : List EntryValue} {q : Nat} :
    q ∈ samplesOf values ↔ ∃ d e, EntryValue.listen q d e ∈ values := by
  unfold samplesOf
  rw [List.mem_filterMap]
  constructor
  · rintro ⟨v, hv, hq⟩
    cases v with
    | drive => cases hq
    | listen q' d e =>
      obtain rfl := Option.some.inj hq
      exact ⟨d, e, hv⟩
  · rintro ⟨d, e, hv⟩
    exact ⟨_, hv, rfl⟩

theorem SamplesInRange.append {values more : List EntryValue} (h : SamplesInRange values)
    (h' : SamplesInRange more) : SamplesInRange (values ++ more) := by
  unfold SamplesInRange samplesOf
  rw [List.filterMap_append, List.forall_mem_append]
  exact ⟨h, h'⟩

/-- The samples of an accepted report are within their range (R107, R109). -/
theorem samplesInRange_walk {entries : List Entry} {first : Nat} {bytes : List Byte} {run : List RawEntry}
    {values : List EntryValue} (hwalk : walk entries first bytes = some run) (hvalues : runValues run = some values) :
    SamplesInRange values := by
  obtain ⟨hcut, -⟩ := walk_eq_some.1 hwalk
  intro q hq
  obtain ⟨d, e, hv⟩ := mem_samplesOf.1 hq
  have hmem : some (EntryValue.listen q d e) ∈ run.map RawEntry.value := by
    rw [(runValues_some run values).1 hvalues]
    exact List.mem_map_of_mem hv
  obtain ⟨r, hr, hvalue⟩ := List.mem_map.1 hmem
  cases r with
  | drive lane code =>
    obtain ⟨st, -, hst⟩ := Option.map_eq_some_iff.1 hvalue
    cases hst
  | listen lane q' d' e' =>
    obtain ⟨rfl, -, -⟩ := EntryValue.listen.inj (Option.some.inj hvalue)
    exact cutEntries_quiet hcut lane q' d' e' hr

/-! ## Tracking (R120, R121) -/

/-- A reference steps towards the sample and never past it, so that it stays in range (R120, R121). -/
theorem trackSample_le {kup kdn r q : Nat} (hk : kup ≤ 256) (hq : q ≤ 65535) (hr : r ≤ referenceMax) :
    trackSample kup kdn r q ≤ referenceMax := by
  unfold trackSample
  split
  next h =>
    have hstep : (q * 256 - r) * kup / 256 ≤ q * 256 - r := Nat.div_le_of_le_mul <| by
      rw [Nat.mul_comm]
      exact Nat.mul_le_mul_right _ hk
    unfold referenceMax
    omega
  next => exact (Nat.sub_le ..).trans hr

theorem foldl_trackSample_le {kup kdn r : Nat} {samples : List Nat} (hk : kup ≤ 256)
    (hsamples : ∀ q ∈ samples, q ≤ 65535) (hr : r ≤ referenceMax) :
    samples.foldl (trackSample kup kdn) r ≤ referenceMax :=
  List.foldlRecOn (motive := (· ≤ referenceMax)) _ _ hr fun _ hb q hq => trackSample_le hk (hsamples q hq) hb

/-! ## The parameters (R72, R73) -/

/-- P1 to P16 are within their ranges (R72). -/
def Params.InRange (ps : Params) : Prop :=
  ∀ i : Fin 16, (generalRange.at i).1 ≤ ps.p i ∧ ps.p i ≤ (generalRange.at i).2

theorem generalRange_le (i : Fin 16) : (generalRange.at i).1 ≤ (generalRange.at i).2 := by
  revert i
  decide

theorem clamp_mem {range : Nat × Nat} (h : range.1 ≤ range.2) (v : Nat) :
    range.1 ≤ clamp range v ∧ clamp range v ≤ range.2 :=
  ⟨le_max_left .., max_le h (min_le_left ..)⟩

theorem Params.InRange.store {ps : Params} (h : ps.InRange) (r : ParamRef) (v : Nat) : (ps.store r v).InRange := by
  cases r with
  | threshold => exact h
  | general j =>
    intro i
    have hput : (ps.store (.general j) v).p i = if i = j then clamp (generalRange.at j) v else ps.p i :=
      Table.at_put ..
    rw [hput]
    split
    next hi =>
      subst hi
      exact clamp_mem (generalRange_le i) v
    next => exact h i

theorem Params.inRange_defaults : Params.defaults.InRange := by
  unfold Params.InRange
  decide

/-- The value that P12 gives every reference is in range (R72, R119, R121). -/
theorem Params.InRange.reference_le {ps : Params} (h : ps.InRange) (n : Slot) :
    (Table.fill 20 (ps.p 11 * 256)).at n ≤ referenceMax := by
  have hrange : generalRange.at 11 = (0, 65535) := rfl
  obtain ⟨-, hmax⟩ := h 11
  rw [hrange] at hmax
  rw [Table.at_fill]
  exact Nat.mul_le_mul_right 256 hmax

/-! ## The law, block by block -/

/-- `ReferenceLaw`, clause by clause. -/
structure Tracked (s : State) : Prop where
  refs : ∀ n : Slot, s.grading.refs.at n ≤ referenceMax
  snaps : ∀ n : Slot, s.grading.refSnap.at n ≤ referenceMax
  params : s.campaign.params.InRange
  samples : ∀ n : Slot, SamplesInRange (s.epoch.received.at n)

theorem tracked_iff (s : State) : Tracked s ↔ ReferenceLaw s :=
  ⟨fun ⟨hrefs, hsnaps, hparams, hsamples⟩ => ⟨hrefs, hsnaps, hparams, hsamples⟩,
    fun ⟨hrefs, hsnaps, hparams, hsamples⟩ => ⟨hrefs, hsnaps, hparams, hsamples⟩⟩

section
variable {s t : State}

theorem samplesInRange_emptied (n : Slot) : SamplesInRange ((Table.fill 20 ([] : List EntryValue)).at n) := by
  rw [Table.at_fill]
  exact samplesInRange_nil

/-! ## The shared operations -/

theorem Tracked.enterPaused (h : Tracked s) : Tracked (enterPaused s) := { h with samples := samplesInRange_emptied }

theorem Tracked.enterWaiting (h : Tracked s) : Tracked (enterWaiting s) :=
  { h with samples := samplesInRange_emptied }

theorem Tracked.enterDone (h : Tracked s) : Tracked (enterDone s) := { h with samples := samplesInRange_emptied }

theorem Tracked.abortCampaign (h : Tracked s) : Tracked (abortCampaign s) :=
  { h with samples := samplesInRange_emptied }

/-- A plan build start snapshots the references (R122). -/
theorem Tracked.startPlanBuild (h : Tracked s) : Tracked (startPlanBuild s) where
  refs := h.refs
  snaps := h.refs
  params := h.params
  samples := samplesInRange_emptied

/-- A START sets every reference to P12 times 256 (R59, R119). -/
theorem Tracked.startCampaign (h : Tracked s) : Tracked (startCampaign s) := by
  rw [startCampaign_eq]
  exact Tracked.startPlanBuild { h with refs := h.params.reference_le }

theorem Tracked.present (p : Presentation) (h : Tracked s) : Tracked (present p s) := by
  rw [present_frame]
  exact { h with }

theorem Tracked.enterVoid (cause : VoidCause) (h : Tracked s) : Tracked (enterVoid cause s) := by
  rw [enterVoid_frame]
  exact { h with }

theorem Tracked.closeEpoch (normal : Bool) (h : Tracked s) : Tracked (closeEpoch normal s) := by
  have hmarked : Tracked (markClosed normal s) := { h with }
  rw [closeEpoch_eq]
  rcases decideAfterClose_cases (markClosed normal s) with ⟨_, e⟩ | ⟨_, _, _, e⟩ | ⟨_, _, e⟩ <;> rw [e]
  · exact hmarked.enterPaused
  · exact hmarked.enterDone
  · exact hmarked.startPlanBuild

theorem Tracked.mapEdit (h : Tracked s) : Tracked (mapEdit s) := by
  unfold Machine.mapEdit
  split
  · exact { h with }
  · exact h

theorem Tracked.gradeTrial (y : Trial) (h : Tracked s) : Tracked (gradeTrial s y) := by
  rw [gradeTrial_frame]
  exact { h with }

/-! ## The ends of a plan build, of an announce and of a grace -/

theorem Tracked.decidePlan (h : Tracked s) : Tracked (decidePlan s) := by
  have hback : Tracked (giveNumberBack s) := { h with }
  rcases decidePlan_cases s with ⟨_, e⟩ | ⟨_, _, e⟩ | ⟨_, _, _, e⟩ | ⟨_, _, _, e⟩ <;> rw [e]
  · exact h.enterVoid .line
  · rcases emptyPlan_cases s with ⟨_, e⟩ | ⟨_, _, e⟩ | ⟨_, _, e⟩ <;> rw [e]
    · exact hback.enterDone
    · exact hback.enterPaused
    · exact hback.enterWaiting
  · exact Tracked.enterPaused { h with }
  · exact { h with }

theorem Tracked.withdraw (h : Tracked s) : Tracked (withdraw s) := by
  rw [withdraw_frame]
  exact { h with }

theorem Tracked.afterWithdrawal (h : Tracked s) : Tracked (afterWithdrawal s) := by
  unfold Machine.afterWithdrawal
  split_ifs
  · exact h.closeEpoch false
  · exact h.enterVoid .rail
  · rw [beginPhase1_frame]
    exact { h with }

theorem Tracked.settleGrace (h : Tracked s) : Tracked (settleGrace s) := by
  rw [settleGrace_frame, gradeNoReports_frame]
  exact { h with }

theorem Tracked.voidSettles (h : Tracked s) : Tracked (decideAfterSettle (settleVoid s)) := by
  have hsettled : Tracked (settleVoid s) := { h with }
  rcases decideAfterSettle_cases (settleVoid s) with ⟨_, e⟩ | ⟨_, _, e⟩ <;> rw [e]
  · exact hsettled.enterPaused
  · exact hsettled.startPlanBuild

/-- The phases, the gap and the deadline leave received what it was. -/
theorem phaseEnds_received (s : State) :
    (phase1Ends s).epoch.received = s.epoch.received ∧ (gapEnds s).epoch.received = s.epoch.received
      ∧ (phase2Ends s).epoch.received = s.epoch.received
      ∧ (deadlineRunsOut s).epoch.received = s.epoch.received := by
  refine ⟨?_, ?_, ?_, ?_⟩
  · unfold phase1Ends
    split_ifs <;> rfl
  · unfold gapEnds
    split_ifs <;> rfl
  · unfold phase2Ends
    split_ifs <;> rfl
  · unfold deadlineRunsOut
    split_ifs <;> rfl

theorem Tracked.advances (ha : Advances s t) (hr : t.epoch.received = s.epoch.received) (h : Tracked s) :
    Tracked t := by
  rw [ha.frame]
  exact { h with samples := hr ▸ h.samples }

/-! ## The report -/

theorem Tracked.storeRun {values : List EntryValue} (n : Slot) (hvalues : SamplesInRange values) (h : Tracked s) :
    Tracked (storeRun n values s) where
  refs := h.refs
  snaps := h.snaps
  params := h.params
  samples m := by
    rw [storeRun_received]
    split
    · exact (h.samples n).append hvalues
    · exact h.samples m

/-- A completed report moves its node's reference, which stays in range (R111, R120). -/
theorem Tracked.trackReference (n : Slot) (h : Tracked s) : Tracked (trackReference n s) where
  refs m := by
    have hrange : generalRange.at 8 = (0, 255) := rfl
    obtain ⟨-, hkup⟩ := h.params 8
    rw [hrange] at hkup
    refine (Table.at_put ..).trans_le ?_
    split
    · exact foldl_trackSample_le (Nat.le_succ_of_le hkup) (h.samples n) (h.refs n)
    · exact h.refs m
  snaps := h.snaps
  params := h.params
  samples := h.samples

theorem Tracked.completeReport (n : Slot) (h : Tracked s) : Tracked (completeReport n s) := by
  have hcleared : Tracked (clearMisses n s) := { h with }
  exact List.foldlRecOn (motive := Tracked) _ _ (hcleared.trackReference n) fun _ hu y _ => hu.gradeTrial y

theorem Tracked.acceptRun {values : List EntryValue} (n : Slot) (hvalues : SamplesInRange values) (h : Tracked s) :
    Tracked (acceptRun n values s) := by
  have hstored := h.storeRun n hvalues
  unfold Machine.acceptRun closeIfDone
  split_ifs
  · exact (hstored.completeReport n).closeEpoch true
  · exact hstored.completeReport n
  · exact hstored

/-! ## The moves -/

theorem Tracked.aside (ha : Aside s t) (h : Tracked s) : Tracked t where
  refs := ha.grading ▸ h.refs
  snaps := ha.grading ▸ h.snaps
  params := ha.params ▸ h.params
  samples := ha.received ▸ h.samples

theorem tracked_reset {ps : Params} (hps : ps.InRange) (hg : t.grading = Grading.afterReset ps)
    (hp : t.campaign.params = ps) (he : t.epoch = Epoch.afterReset) : Tracked t where
  refs := hg ▸ hps.reference_le
  snaps := hg ▸ hps.reference_le
  params := hp ▸ hps
  samples := he ▸ samplesInRange_emptied

theorem Tracked.move (hm : Move s t) (h : Tracked s) : Tracked t := by
  obtain ⟨hphase1, hgap, hphase2, hdeadline⟩ := phaseEnds_received s
  cases hm with
  | aside ha => exact h.aside ha
  | params _ r v => exact { h with params := h.params.store r v }
  | hold | fetch => exact { h with }
  | reset => exact tracked_reset Params.inRange_defaults rfl rfl rfl
  | restart => exact tracked_reset h.params rfl rfl rfl
  | write => exact Tracked.mapEdit { h with }
  | start => exact h.startCampaign
  | pause => exact h.enterPaused
  | resume | wake => exact Tracked.startPlanBuild { h with }
  | abort => exact h.abortCampaign
  | expire hc =>
    rw [waitExpires, if_pos hc]
    exact Tracked.enterDone { h with }
  | blink hc =>
    rw [blinkLamp, if_pos hc]
    exact { h with }
  | present p => exact h.present p
  | void cause => exact h.enterVoid cause
  | plan => exact Tracked.decidePlan { h with }
  | announceEnd => exact h.withdraw.afterWithdrawal
  | phase1End he => exact h.advances (phase1Ends_advances he) hphase1
  | gapEnd he => exact h.advances (gapEnds_advances he) hgap
  | phase2End he => exact h.advances (phase2Ends_advances he) hphase2
  | deadline he => exact h.advances (deadlineRunsOut_advances he) hdeadline
  | report hwalk hvalues => exact h.acceptRun _ (samplesInRange_walk hwalk hvalues)
  | graceEnd => exact h.settleGrace.closeEpoch true
  | voidSettle => exact h.voidSettles

end

/-- Settles O55: every move keeps the law, whose ranges of the parameters and the samples bound each reference. -/
theorem referencesStayInRange : Obligations.ReferencesStayInRange := by
  intro s t hlaw hstep
  rw [← tracked_iff] at hlaw ⊢
  exact (Moves.of_step hstep).keeps (P := Tracked) Tracked.move hlaw

end Sys2Proof.Machine
end

section
/-! The signal lane of a CROSSED verdict (R128). -/

namespace Sys2Proof.Machine

/-- A reading stands before another for the signal lane: its G is larger, or equal on no higher a lane (R128). -/
def Reading.Precedes (r m : Reading) : Prop := m.scaled < r.scaled ∨ (m.scaled = r.scaled ∧ r.lane ≤ m.lane)

theorem Reading.Precedes.refl (r : Reading) : r.Precedes r := .inr ⟨rfl, le_rfl⟩

theorem strongest_eq_none {ns : List Reading} : strongest ns = none ↔ ns = [] := by
  cases ns with
  | nil => exact ⟨fun _ => rfl, fun _ => rfl⟩
  | cons r rs =>
    unfold strongest
    split
    next => simp
    next => split <;> simp

/-- Of readings in ascending lane order the strongest stands before every one (R128). -/
theorem strongest_precedes {ns : List Reading} {r : Reading} (hlanes : ns.Pairwise (fun a b => a.lane < b.lane))
    (h : strongest ns = some r) : r ∈ ns ∧ ∀ m ∈ ns, r.Precedes m := by
  induction ns generalizing r with
  | nil => cases h
  | cons a rs ih =>
    obtain ⟨hfirst, hrest⟩ := List.pairwise_cons.1 hlanes
    unfold strongest at h
    split at h
    next hnone =>
      obtain rfl := Option.some.inj h
      rw [strongest_eq_none.1 hnone, List.forall_mem_singleton]
      exact ⟨List.mem_singleton_self _, .refl a⟩
    next b hb =>
      obtain ⟨hmem, hprecedes⟩ := ih hrest hb
      split at h
      next hlt =>
        obtain rfl := Option.some.inj h
        exact ⟨List.mem_cons_of_mem _ hmem, List.forall_mem_cons.2 ⟨.inl hlt, hprecedes⟩⟩
      next hge =>
        obtain rfl := Option.some.inj h
        refine ⟨List.mem_cons_self, List.forall_mem_cons.2 ⟨.refl a, fun m hm => ?_⟩⟩
        have hle : m.scaled ≤ a.scaled := (hprecedes m hm).elim (by omega) (by omega)
        exact hle.lt_or_eq.imp_right fun heq => ⟨heq, (hfirst m hm).le⟩

theorem signalReading_eq_none {th : Thresholds} {rf : Nat} {ns : List Reading} :
    signalReading th rf ns = none ↔ ∀ m ∈ ns, m.scaled < rf * th.tPass := by
  rw [signalReading, strongest_eq_none, List.filter_eq_nil_iff]
  simp only [decide_eq_true_iff, Nat.not_le]

/-- Settles O41: the strongest of the neighbours that reach the pass threshold. -/
theorem signalLane : Obligations.SignalLane := by
  intro th rf epoch y ns hlanes
  refine ⟨signalReading_eq_none, fun r hr => ?_⟩
  obtain ⟨hmem, hprecedes⟩ := strongest_precedes (hlanes.filter _) hr
  obtain ⟨hns, hreach⟩ := List.mem_filter.1 hmem
  refine ⟨hns, of_decide_eq_true hreach, fun m hm hpass => ?_, ?_⟩
  · exact hprecedes m (List.mem_filter.2 ⟨hm, decide_eq_true hpass⟩)
  · rw [findingsOf, if_pos rfl, hr]

end Sys2Proof.Machine
end

section
/-! Grading a trial from its entries (R123 to R127, R130 to R135): the entries found and what they measure, the
verdict, and what the grading leaves. -/

namespace Sys2Proof.Machine

/-! ## The entries of a trial (R124, R126) -/

section
variable {s : State} {n : Slot} {e : Entry} {v : EntryValue} {trial rf : Nat}

/-- An entry is answered by the value received at its index (R95, R109). -/
theorem mem_answered : (e, v) ∈ answered s n ↔
    ∃ i : Nat, (s.planner.entries.at n)[i]? = some e ∧ (s.epoch.received.at n)[i]? = some v := by
  simp only [answered, List.mem_iff_getElem?, List.getElem?_zip_eq_some]

theorem driveOf_eq_some {st : DriveStatus} :
    driveOf trial (e, v) = some st ↔ v = .drive st ∧ e.kind = .drive ∧ e.trial = trial := by
  cases v with
  | drive st' => simp [driveOf, and_comm]
  | listen => simp [driveOf]

theorem readingOf_eq_some {mark : EntryKind} {r : Reading} :
    readingOf rf trial mark (e, v) = some r ↔
      ∃ q d er, v = .listen q d er ∧ (e.kind = mark ∧ e.trial = trial) ∧ reading rf e.lane q d er = r := by
  cases v with
  | drive => simp [readingOf]
  | listen q d er => simp [readingOf]

/-- The signal is d - q, or 0 where q is the larger (R126). -/
theorem reading_eq (lane : Lane) (q d e : Nat) :
    let g := if d < q then 0 else d - q
    reading rf lane q d e = ⟨lane, 16 * g, min (16 * g / rf) 65535, e⟩ := by
  intro g
  have hg : (d - q) * 16 = 16 * g := by
    dsimp only [g]
    split <;> omega
  rw [reading, hg]

/-- What one answered entry gives is found, if no other entry of the list can give anything. -/
theorem findSome?_answered {f : Entry × EntryValue → Option β} {b : β} {i : Nat}
    (he : (s.planner.entries.at n)[i]? = some e) (hv : (s.epoch.received.at n)[i]? = some v) (hf : f (e, v) = some b)
    (honce : ∀ (j : Nat) e' v' b', (s.planner.entries.at n)[j]? = some e' → f (e', v') = some b' → j = i) :
    (answered s n).findSome? f = some b := by
  obtain ⟨b', hfound⟩ := findSome?_of_mem (mem_answered.2 ⟨i, he, hv⟩) (hf ▸ Option.some_ne_none b)
  obtain ⟨⟨e', v'⟩, hmem, hf'⟩ := List.exists_of_findSome?_eq_some hfound
  obtain ⟨j, hej, hvj⟩ := mem_answered.1 hmem
  obtain rfl := honce j e' v' b' hej hf'
  obtain rfl := Option.some.inj (he.symm.trans hej)
  obtain rfl := Option.some.inj (hv.symm.trans hvj)
  rw [hfound, ← hf', hf]

/-- The answered entries stand in the order of the entry list. -/
theorem answered_pairwise {R : Entry → Entry → Prop} (h : (s.planner.entries.at n).Pairwise R) :
    (answered s n).Pairwise fun a b => R a.1 b.1 := by
  rw [List.pairwise_iff_getElem] at h ⊢
  intro i j hi hj hij
  simp only [answered, List.getElem_zip]
  exact h i j _ _ hij

end

section
variable {s : State} {y : Trial}

theorem driverEntry_sent {i : Nat} {lane : Lane} {st : DriveStatus}
    (he : (s.planner.entries.at y.driver.slot)[i]? = some ⟨.drive, lane, y.number⟩)
    (hv : (s.epoch.received.at y.driver.slot)[i]? = some (.drive st))
    (honce : ∀ (j : Nat) e, (s.planner.entries.at y.driver.slot)[j]? = some e → e.kind = .drive →
      e.trial = y.number → j = i) : driverEntry s y = some st := by
  refine findSome?_answered he hv (driveOf_eq_some.2 ⟨rfl, rfl, rfl⟩) fun j e v b hej hf => ?_
  obtain ⟨-, hkind, htrial⟩ := driveOf_eq_some.1 hf
  exact honce j e hej hkind htrial

theorem expectedEntry_sent {i : Nat} {lane : Lane} {q d er : Nat}
    (he : (s.planner.entries.at y.receiver.slot)[i]? = some ⟨.expected, lane, y.number⟩)
    (hv : (s.epoch.received.at y.receiver.slot)[i]? = some (.listen q d er))
    (honce : ∀ (j : Nat) e, (s.planner.entries.at y.receiver.slot)[j]? = some e → e.kind = .expected →
      e.trial = y.number → j = i) :
    expectedEntry s y = some (reading (floorAt s y.receiver.slot) lane q d er) := by
  refine findSome?_answered he hv (readingOf_eq_some.2 ⟨q, d, er, rfl, ⟨rfl, rfl⟩, rfl⟩) fun j e v b hej hf => ?_
  obtain ⟨-, -, -, -, ⟨hkind, htrial⟩, -⟩ := readingOf_eq_some.1 hf
  exact honce j e hej hkind htrial

theorem mem_neighbourEntries {r : Reading} : r ∈ neighbourEntries s y ↔
    ∃ (i : Nat) (lane : Lane) (q d er : Nat),
      ((s.planner.entries.at y.receiver.slot)[i]? = some ⟨.neighbour, lane, y.number⟩
        ∧ (s.epoch.received.at y.receiver.slot)[i]? = some (.listen q d er))
      ∧ r = reading (floorAt s y.receiver.slot) lane q d er := by
  rw [neighbourEntries, List.mem_filterMap]
  constructor
  · rintro ⟨⟨e, v⟩, hmem, hr⟩
    obtain ⟨i, he, hv⟩ := mem_answered.1 hmem
    obtain ⟨q, d, er, rfl, ⟨hkind, htrial⟩, rfl⟩ := readingOf_eq_some.1 hr
    refine ⟨i, e.lane, q, d, er, ⟨?_, hv⟩, rfl⟩
    rw [he, ← hkind, ← htrial]
  · rintro ⟨i, lane, q, d, er, ⟨he, hv⟩, rfl⟩
    exact ⟨_, mem_answered.2 ⟨i, he, hv⟩, readingOf_eq_some.2 ⟨q, d, er, rfl, ⟨rfl, rfl⟩, rfl⟩⟩

/-- The neighbours stand in the order of the entry list, which is that of the lanes (R39, R95, R124). -/
theorem neighbourEntries_ascending
    (h : (s.planner.entries.at y.receiver.slot).Pairwise fun a b =>
      a.kind = .neighbour → b.kind = .neighbour → a.trial = b.trial → a.lane < b.lane) :
    (neighbourEntries s y).Pairwise fun a b => a.lane < b.lane := by
  refine List.pairwise_filterMap.2 ((answered_pairwise h).imp ?_)
  rintro ⟨a, va⟩ ⟨b, vb⟩ hlt r hr r' hr'
  obtain ⟨_, _, _, -, ⟨hkind, htrial⟩, rfl⟩ := readingOf_eq_some.1 hr
  obtain ⟨_, _, _, -, ⟨hkind', htrial'⟩, rfl⟩ := readingOf_eq_some.1 hr'
  exact hlt hkind hkind' (htrial.trans htrial'.symm)

end

/-! ## The verdict and the settle decision (R127, R132) -/

theorem settles_iff {v : Verdict} {attempts limit : Nat} :
    settles v attempts limit = true
      ↔ v ∈ [Verdict.pass, .open, .crossed, .shorted] ∨ attempts = 1 + limit := by
  have hatOnce : v.settlesAtOnce = true ↔ v ∈ [Verdict.pass, .open, .crossed, .shorted] := by
    cases v <;> simp [Verdict.settlesAtOnce]
  rw [settles, Bool.or_eq_true, hatOnce, beq_iff_eq]

/-! ## One grading -/

section
variable (s : State) (y : Trial) (st : DriveStatus) (x : Reading)

/-- The verdict of a trial from its entries (R127). -/
def verdictFrom : Verdict :=
  verdictOf (thresholdsOf s y.leg) (floorAt s y.receiver.slot) st x (neighbourEntries s y)

/-- The findings a trial graded from its entries presents (R130, R131). -/
def findingsFrom : List Presentation :=
  findingsOf (thresholdsOf s y.leg) (floorAt s y.receiver.slot) s.epoch.number y (verdictFrom s y st x)
    (neighbourEntries s y)

/-- The record a trial graded from its entries leaves its leg (R134, R135). -/
def recordFrom : LegResult :=
  (s.results.records.at y.leg).graded (verdictFrom s y st x) x
    ((signalReading (thresholdsOf s y.leg) (floorAt s y.receiver.slot) (neighbourEntries s y)).map (·.lane))
    s.epoch.number s.campaign.retestLimit s.epoch.backup (s.epoch.state == .grace)

theorem verdictFrom_countIx : ∃ i, (verdictFrom s y st x).countIx = some i := by
  have hne : verdictFrom s y st x ≠ .none := by
    unfold verdictFrom
    exact verdictOf_ne_none _ _ _ _ _
  revert hne
  cases verdictFrom s y st x with
  | none => exact fun hne => absurd rfl hne
  | _ => exact fun _ => ⟨_, rfl⟩

/-- The record settles by its verdict at once, or by the last attempt (R132). -/
theorem recordFrom_settled : (recordFrom s y st x).settled = true ↔
    verdictFrom s y st x ∈ [Verdict.pass, .open, .crossed, .shorted]
      ∨ (s.results.records.at y.leg).attempts + 1 = 1 + s.campaign.retestLimit := settles_iff

variable {s y st x}

/-- What the record holds, with the verdict and the settle decision in any other form (R134, R135). -/
theorem recordFrom_eq {v : Verdict} {settled : Prop} [Decidable settled] (hv : verdictFrom s y st x = v)
    (h : (recordFrom s y st x).settled = true ↔ settled) :
    recordFrom s y st x = {
      verdict := v, settled := decide settled, attempts := (s.results.records.at y.leg).attempts + 1
      margin := some x.margin, errorCount := some x.errors
      signalLane := if v = .crossed then (signalReading (thresholdsOf s y.leg) (floorAt s y.receiver.slot)
        (neighbourEntries s y)).map (·.lane) else none
      lastEpoch := some s.epoch.number, degraded := s.epoch.backup, late := decide (s.epoch.state = .grace) } := by
  subst hv
  rw [← Bool.eq_iff_iff.2 (h.trans decide_eq_true_iff.symm)]
  rfl

variable (hd : driverEntry s y = some st) (hx : expectedEntry s y = some x)
include hd hx

/-- The findings are presented, then the record is written (R136). -/
theorem gradeTrial_eq :
    gradeTrial s y = recordGrading y (recordFrom s y st x) (presentAll (findingsFrom s y st x) s) := by
  rw [gradeTrial, hd, hx]
  rfl

theorem gradeTrial_record (l : LegIx) : (gradeTrial s y).results.records.at l
    = if l = y.leg then recordFrom s y st x else s.results.records.at l := by
  rw [gradeTrial_eq hd hx, recordGrading_record, presentAll_frame]

theorem gradeTrial_findings : (gradeTrial s y).findings = (presentAll (findingsFrom s y st x) s).findings := by
  rw [gradeTrial_eq hd hx, recordGrading_frame]

/-- A settled leg stays out of the queue, and the count of its verdict rises by one (R133, R152). -/
theorem gradeTrial_settles (h : (recordFrom s y st x).settled = true) :
    (gradeTrial s y).planner.queue = s.planner.queue
      ∧ ∃ i, (verdictFrom s y st x).countIx = some i
        ∧ (gradeTrial s y).results.counts = s.results.counts.put i (s.results.counts.at i + 1) := by
  obtain ⟨i, hi⟩ := verdictFrom_countIx s y st x
  have hverdict : (recordFrom s y st x).verdict.countIx = some i := hi
  rw [gradeTrial_eq hd hx, recordGrading_queue, recordGrading_results, if_pos h, if_pos h, List.append_nil,
    Results.count, hverdict, presentAll_frame]
  exact ⟨rfl, i, hi, rfl⟩

/-- A leg not settled joins the tail of the queue, and no count changes (R133, R152). -/
theorem gradeTrial_retests (h : ¬(recordFrom s y st x).settled = true) :
    (gradeTrial s y).planner.queue = s.planner.queue ++ [y.leg]
      ∧ (gradeTrial s y).results.counts = s.results.counts := by
  rw [gradeTrial_eq hd hx, recordGrading_queue, recordGrading_results, if_neg h, if_neg h, presentAll_frame]
  exact ⟨rfl, rfl⟩

/-- The trial is GRADED, and of the plan the queue alone changes besides (R84, R133). -/
theorem gradeTrial_planner : (gradeTrial s y).planner = { s.planner with
    queue := (gradeTrial s y).planner.queue
    trials := s.planner.trials.map (fun z => if z.number = y.number then { z with state := .graded } else z) } := by
  rw [gradeTrial_eq hd hx, recordGrading_frame, recordGrading_trials, presentAll_frame]

end

/-- Settles O40: the entries and what they measure, then the grading block by block. -/
theorem gradingDecides : Obligations.GradingDecides := by
  refine ⟨fun s y => ?_, fun s y st x hd hx => ?_⟩
  · intro drv rcv rf quantities sent once
    refine ⟨fun i lane st hsent honce => driverEntry_sent hsent.1 hsent.2 honce,
      fun i lane q d e hsent honce => ?_, fun r => ?_, neighbourEntries_ascending⟩
    · rw [expectedEntry_sent hsent.1 hsent.2 honce, reading_eq]
      rfl
    · simp only [mem_neighbourEntries, reading_eq]
      rfl
  · intro th rf ns passes v old settled t
    have hv : verdictFrom s y st x = v := by
      simp only [verdictFrom, verdictOf, List.any_eq_true, decide_eq_true_iff]
      rfl
    have hsettled : (recordFrom s y st x).settled = true ↔ settled := by
      rw [recordFrom_settled, hv]
    refine ⟨?record, fun l hl => ?others, fun hidle => ?idle, fun hlive => ?live, fun hset => ?settles,
      fun hset => ?retests, gradeTrial_planner hd hx, gradeTrial_frame s y⟩
    case record =>
      rw [gradeTrial_record hd hx, if_pos rfl]
      exact recordFrom_eq hv hsettled
    case others => rw [gradeTrial_record hd hx, if_neg hl]
    case idle => rw [gradeTrial_findings hd hx, presentAll_idle _ hidle]
    case live =>
      rw [gradeTrial_findings hd hx, presentAll_live _ hlive, findingsFrom, hv]
      rfl
    case settles => exact hv ▸ gradeTrial_settles hd hx (hsettled.2 hset)
    case retests => exact gradeTrial_retests hd hx (mt hsettled.1 hset)

end Sys2Proof.Machine
end

section
/-! The return to the reference clock (R148): a step keeps the clock source from returning, starts a plan build that
advances the epoch number it found, or ends in a campaign state in which a return is applied at once. -/

namespace Sys2Proof.Machine

/-- From `s` to `t` the clock source does not return, or a plan build starts, or the campaign ends up where a return
that becomes pending is applied at once (R148). -/
inductive ReturnsBetween (s t : State) : Prop
  | stays (h : s.timebase.source = .backup → t.timebase.source = .backup)
  | builds (hstate : t.epoch.state = .planning)
      (hbefore : t.epoch.before = if s.campaign.state.live = true then s.epoch.number else 0)
      (hnumber : t.epoch.number = nextEpochNumber t.epoch.before)
  | settles (h : t.campaign.state.returnsAtOnce = true)

/-- The clock source, the campaign state and the epoch number of `t` are those of `s`: all that a return is read
against. -/
structure ClockKept (s t : State) : Prop where
  source : t.timebase.source = s.timebase.source
  campaign : t.campaign.state = s.campaign.state
  number : t.epoch.number = s.epoch.number

theorem ClockKept.refl (s : State) : ClockKept s s := ⟨rfl, rfl, rfl⟩

theorem ClockKept.trans {s t u : State} (h : ClockKept s t) (h' : ClockKept t u) : ClockKept s u where
  source := h'.source.trans h.source
  campaign := h'.campaign.trans h.campaign
  number := h'.number.trans h.number

namespace ReturnsBetween

/-! ## The three ways a step can go -/

section
variable {s t u : State}

theorem of_source (h : t.timebase.source = s.timebase.source) : ReturnsBetween s t := .stays h.trans

/-- A change before the step that keeps what a return is read against. -/
theorem after (k : ClockKept s u) (h : ReturnsBetween u t) : ReturnsBetween s t := by
  obtain ⟨hsource, hcampaign, hnumber⟩ := k
  cases h with
  | stays h => exact .stays fun hbackup => h (hsource.trans hbackup)
  | builds hstate hbefore hnext => exact .builds hstate (by rw [hbefore, hcampaign, hnumber]) hnext
  | settles h => exact .settles h

end

section
variable (s : State)

theorem refl : ReturnsBetween s s := of_source rfl

/-! ## Entries of the campaign and plan builds -/

theorem enterPaused : ReturnsBetween s (enterPaused s) := of_source rfl

theorem enterDone : ReturnsBetween s (enterDone s) := .settles rfl

/-- A plan build leaves the campaign state alone: where no campaign is live, a return is applied at once. -/
theorem startPlanBuild : ReturnsBetween s (startPlanBuild s) := by
  by_cases hlive : s.campaign.state.live = true
  · exact .builds rfl (if_pos hlive).symm rfl
  · refine .settles ?_
    rw [startPlanBuild_campaign]
    cases hc : s.campaign.state <;> simp_all [CampaignState.live, CampaignState.returnsAtOnce]

/-- An accepted START sets the epoch number to 0 before its plan build starts (R59). -/
theorem startCampaign (h : s.campaign.state.live = false) : ReturnsBetween s (startCampaign s) :=
  .builds rfl (if_neg (by simp [h])).symm rfl

theorem resumeCampaign (h : s.campaign.state = .paused) : ReturnsBetween s (resumeCampaign s) :=
  .builds rfl (if_pos (by rw [h]; rfl)).symm rfl

theorem abortCampaign : ReturnsBetween s (abortCampaign s) := .settles rfl

theorem transitionIntoActive : ReturnsBetween s (transitionIntoActive s) := by
  by_cases h : s.campaign.state = .waiting
  · rw [transitionIntoActive_waiting h]
    exact .builds rfl (if_pos (by rw [h]; rfl)).symm rfl
  · rw [transitionIntoActive_other h]
    exact refl s

theorem stationChange : ReturnsBetween s (stationChange s) := by
  rw [stationChange_frame]
  exact of_source rfl

theorem enterVoid (cause : VoidCause) : ReturnsBetween s (enterVoid cause s) := by
  rw [enterVoid_frame]
  exact of_source rfl

/-- A map edit is signalled outside a live campaign, and leaves it so (R45). -/
theorem mapEdit (h : s.campaign.state.live = false) : ReturnsBetween s (mapEdit s) := by
  by_cases hidle : s.campaign.state = .idle
  · rw [mapEdit_idle hidle]
    exact refl s
  · rw [mapEdit_ended (ended_of_settled h hidle)]
    exact .settles rfl

/-! ## The ends of an epoch -/

theorem closeEpoch (normal : Bool) : ReturnsBetween s (closeEpoch normal s) := by
  have hmarked : ClockKept s (markClosed normal s) := { ClockKept.refl s with }
  rw [closeEpoch_eq]
  refine after hmarked ?_
  rcases decideAfterClose_cases (markClosed normal s) with ⟨_, e⟩ | ⟨_, _, _, e⟩ | ⟨_, _, e⟩ <;> rw [e]
  · exact enterPaused _
  · exact enterDone _
  · exact startPlanBuild _

theorem voidSettles : ReturnsBetween s (voidSettles s) := by
  have hsettled : ClockKept s (settleVoid s) := { ClockKept.refl s with }
  unfold Machine.voidSettles
  split
  · refine after hsettled ?_
    rcases decideAfterSettle_cases (settleVoid s) with ⟨_, e⟩ | ⟨_, _, e⟩ <;> rw [e]
    · exact enterPaused _
    · exact startPlanBuild _
  · exact refl s

theorem graceEnds : ReturnsBetween s (graceEnds s) := by
  have hsettled : ClockKept s (settleGrace s) := by
    rw [settleGrace_frame, gradeNoReports_frame]
    exact { ClockKept.refl s with }
  unfold Machine.graceEnds
  split
  · exact after hsettled (closeEpoch _ true)
  · exact refl s

theorem announceEnds : ReturnsBetween s (announceEnds s) := by
  have hwithdrawn : ClockKept s (withdraw s) := by
    rw [withdraw_frame]
    exact { ClockKept.refl s with }
  unfold Machine.announceEnds
  split
  · refine after hwithdrawn ?_
    unfold afterWithdrawal
    split_ifs
    · exact closeEpoch _ false
    · exact enterVoid _ .rail
    · exact of_source rfl
  · exact refl s

/-- A plan build gives its number back or goes on; none starts at its end (R60, R92, R93). -/
theorem planEnds : ReturnsBetween s (planEnds s) := by
  have hmade : ClockKept s (makePlan s) := { ClockKept.refl s with }
  unfold Machine.planEnds
  split
  · refine after hmade ?_
    rcases decidePlan_cases (makePlan s) with ⟨_, e⟩ | ⟨_, _, e⟩ | ⟨_, _, _, e⟩ | ⟨_, _, _, e⟩ <;> rw [e]
    · exact enterVoid _ .line
    · rcases emptyPlan_cases (makePlan s) with ⟨_, e⟩ | ⟨_, _, e⟩ | ⟨_, _, e⟩ <;> rw [e]
      · exact .settles rfl
      · exact of_source rfl
      · exact .settles rfl
    · exact of_source rfl
    · exact of_source rfl
  · exact refl s

/-! ## The report -/

theorem clockKept_completeReport (n : Slot) : ClockKept s (completeReport n s) := by
  refine List.foldlRecOn (motive := ClockKept s) _ _ { ClockKept.refl s with } fun u hu y _ => ?_
  refine hu.trans ?_
  rw [gradeTrial_frame]
  exact { ClockKept.refl u with }

theorem acceptRun (n : Slot) (values : List EntryValue) : ReturnsBetween s (acceptRun n values s) := by
  have hstored : ClockKept s (storeRun n values s) := { ClockKept.refl s with }
  have hcomplete := hstored.trans (clockKept_completeReport (storeRun n values s) n)
  unfold Machine.acceptRun closeIfDone
  split_ifs
  · exact after hcomplete (closeEpoch _ true)
  · exact of_source hcomplete.source
  · exact of_source hstored.source

/-! ## The node table -/

theorem enrolProbe (n : Slot) (channels : Nat) : ReturnsBetween s (enrolProbe n channels s) := by
  have hset (r : NodeRecord) : ClockKept s (setProbe n r s) := { ClockKept.refl s with }
  unfold Machine.enrolProbe
  split
  · exact of_source rfl
  · exact after (hset _) (transitionIntoActive _)

theorem enrolStation (how : Admission) (identity : Nat) : ReturnsBetween s (enrolStation how identity s) := by
  have hadmitted : ClockKept s (admitStation identity s) := { ClockKept.refl s with }
  cases how with
  | fresh => exact after hadmitted (transitionIntoActive _)
  | again => exact of_source rfl
  | takeover => exact after hadmitted (stationChange _)

theorem stationLeaves : ReturnsBetween s (stationLeaves s) := by
  unfold Machine.stationLeaves
  rw [stationChange_frame]
  exact of_source rfl

/-! ## The requests -/

theorem ownerAnswers (k : RequestKind) (who : Sender) (payload : List Byte) :
    ReturnsBetween s (ownerAnswers k who payload s).1 := by
  cases k with
  | enrol =>
    rcases answerEnrol_state payload s who with e | ⟨n, channels, _, e⟩ | ⟨how, identity, _, e⟩ <;>
      rw [Machine.ownerAnswers, e]
    · exact refl s
    · exact enrolProbe s n channels
    · exact enrolStation s how identity
  | leave =>
    rcases answerLeave_state payload s who with e | ⟨n, _, e⟩ | ⟨_, e⟩ <;> rw [Machine.ownerAnswers, e]
    · exact refl s
    · exact of_source rfl
    · exact stationLeaves s
  | status => exact of_source (by rw [Machine.ownerAnswers, answerStatus_state])
  | ident => exact of_source (by rw [Machine.ownerAnswers, answerIdent_state])
  | arm =>
    rcases answerArm_state payload s with e | ⟨_, e⟩ <;> rw [Machine.ownerAnswers, e] <;> exact of_source rfl
  | paramSet =>
    rcases answerParamSet_state payload s with e | ⟨_, _, _, _, _, e⟩ <;>
      rw [Machine.ownerAnswers, e] <;> exact of_source rfl
  | paramGet => exact of_source (by rw [Machine.ownerAnswers, answerParamGet_state])
  | mapWrite =>
    rcases answerMapWrite_state payload s with e | ⟨start, records, hset, _, e⟩ <;> rw [Machine.ownerAnswers, e]
    · exact refl s
    · have hedited : ClockKept s (s.onMap fun m => m.edited start records) := { ClockKept.refl s with }
      exact after hedited (mapEdit _ ((settled_iff_not_live _).1 hset))
  | mapRead => exact of_source (by rw [Machine.ownerAnswers, answerMapRead_state])
  | mapValidate =>
    rcases answerMapValidate_state payload s with e | ⟨_, _, e⟩ <;>
      rw [Machine.ownerAnswers, e] <;> exact of_source rfl
  | mapBurn =>
    rcases answerMapBurn_state payload s with e | ⟨_, _, _, _, _, e⟩ <;>
      rw [Machine.ownerAnswers, e] <;> exact of_source rfl
  | campaignStart =>
    rcases answerStart_state payload s with e | ⟨h, _, e⟩ <;> rw [Machine.ownerAnswers, e]
    · exact refl s
    · exact startCampaign s h
  | campaignPause =>
    rcases answerPause_state payload s with e | ⟨_, e⟩ | ⟨_, e⟩ <;>
      rw [Machine.ownerAnswers, e] <;> exact of_source rfl
  | campaignResume =>
    rcases answerResume_state payload s with e | ⟨h, e⟩ <;> rw [Machine.ownerAnswers, e]
    · exact refl s
    · exact resumeCampaign s h
  | campaignAbort =>
    rcases answerAbort_state payload s with e | ⟨_, e⟩ <;> rw [Machine.ownerAnswers, e]
    · exact refl s
    · exact abortCampaign s
  | fetch =>
    cases who with
    | probe n =>
      rcases answerFetch_state payload s n with e | ⟨_, e⟩ <;>
        rw [Machine.ownerAnswers, probeOnly, e] <;> exact of_source rfl
    | station => exact refl s
  | report =>
    cases who with
    | probe n =>
      rcases answerReport_state payload s n with e | ⟨_, _, values, _, _, _, e⟩ <;>
        rw [Machine.ownerAnswers, probeOnly, e]
      · exact refl s
      · exact acceptRun s n values
    | station => exact refl s
  | resultRead => exact of_source (by rw [Machine.ownerAnswers, answerResultRead_state])
  | findingRead => exact of_source (by rw [Machine.ownerAnswers, answerFindingRead_state])
  | certCommit =>
    rcases answerCertCommit_state payload s with e | ⟨_, _, _, _, e⟩ <;>
      rw [Machine.ownerAnswers, e] <;> exact of_source rfl
  | certRead => exact of_source (by rw [Machine.ownerAnswers, answerCertRead_state])
  | restart =>
    rcases answerRestart_state payload s with e | ⟨_, e⟩ <;> rw [Machine.ownerAnswers, e] <;> exact of_source rfl

end

section
variable {s t : State}

/-- A reply leaves the clock, the campaign and the epoch as the owner left them (R12, R26). -/
theorem replied (header : Byte) (a : Answer) (h : ReturnsBetween s t) : ReturnsBetween s (replied header a t) := by
  cases h with
  | stays h => exact .stays h
  | builds hstate hbefore hnumber => exact .builds hstate hbefore hnumber
  | settles h => exact .settles h

end

section
variable (s : State)

theorem onPort (f : Port → Port) : ReturnsBetween s (s.onPort f) := of_source rfl

theorem takeRequest (header kind : Byte) (payload : List Byte) :
    ReturnsBetween s (takeRequest header kind payload s) := by
  have hheard : ClockKept s (presentToArm s) := { ClockKept.refl s with }
  rw [Machine.takeRequest, ← Prod.mk.eta (p := decideRequest _ _ _ _ _), reply_eq_replied]
  refine replied header _ (after hheard ?_)
  rcases decideRequest_state header kind (marksArmed s.port.arm header kind) payload (presentToArm s) with
    e | ⟨k, who, _, _, _, e⟩ <;> rw [e]
  · exact refl _
  · exact ownerAnswers _ k who payload

theorem deliver (header kind : Byte) (payload : List Byte) : ReturnsBetween s (deliver header kind payload s) := by
  have hheld (f : Port → Port) : ClockKept s (s.onPort f) := { ClockKept.refl s with }
  unfold Machine.deliver
  split
  · exact after (hheld _) (takeRequest ..)
  · exact onPort ..

theorem endOfData : ReturnsBetween s (endOfData s) := by
  unfold Machine.endOfData testFrame
  split_ifs
  · exact takeRequest ..
  · exact onPort ..
  · exact onPort ..
  · exact refl s

/-! ## The resets -/

theorem powerResets (dominant low : Bool) (decay : List NvDecay) :
    ReturnsBetween s (powerResets dominant low decay s) := by
  unfold Machine.powerResets
  split
  · exact of_source rfl
  · exact .settles rfl

theorem nresetFalls : ReturnsBetween s (nresetFalls s) := by
  unfold Machine.nresetFalls
  split <;> exact of_source rfl

end

/-! ## The line and the reply -/

/-- What the line does to the campaign and the clock: a RESTART reset begins, or the timebase is left alone. -/
def RestartsOrKeeps (s t : State) : Prop := t.campaign.state = .idle ∨ t.timebase = s.timebase

theorem of_restart {s t : State} (h : RestartsOrKeeps s t) : ReturnsBetween s t :=
  h.elim (fun hidle => .settles (by rw [hidle]; rfl)) fun hkept => of_source (by rw [hkept])

section
variable (s : State)

theorem afterReply_restarts (dominant : Bool) : RestartsOrKeeps s (afterReply dominant s) := by
  unfold afterReply
  split
  · exact .inl rfl
  · exact .inr rfl

theorem replyCutOff_restarts : RestartsOrKeeps s (replyCutOff s) := by
  unfold replyCutOff
  split
  · exact afterReply_restarts (s.onPort Port.collide) true
  · exact .inr rfl

theorem replyStarts_restarts (dominant : Bool) : RestartsOrKeeps s (replyStarts dominant s) := by
  unfold replyStarts
  split_ifs
  · exact afterReply_restarts (s.onPort Port.collide) true
  · exact .inr rfl
  · exact .inr rfl

theorem replyCompletes_restarts (dominant : Bool) : RestartsOrKeeps s (replyCompletes dominant s) := by
  unfold replyCompletes
  split
  · exact afterReply_restarts (s.onPort (·.completeReply dominant)) dominant
  · exact .inr rfl

theorem levelReaches300_restarts : RestartsOrKeeps s (levelReaches300 s) := by
  unfold levelReaches300
  split
  case h_4 | h_5 => exact .inr rfl
  all_goals exact replyCutOff_restarts s

/-- A restarted campaign is IDLE, where a line fault does nothing (R10, R18, R67). -/
theorem stuckBegins_restarts : RestartsOrKeeps s (stuckBegins s) := by
  have hfault : RestartsOrKeeps s (lineFault ((levelReaches300 s).onPort Port.enterStuck)) := by
    rcases levelReaches300_restarts s with hidle | hkept
    · rw [lineFault_idle (by rw [State.onPort_campaign, hidle]; rfl)]
      exact .inl hidle
    · rw [lineFault_frame]
      exact .inr hkept
  unfold stuckBegins
  dsimp only
  rw [present_frame]
  exact hfault

theorem levelReaches20ms : ReturnsBetween s (levelReaches20ms s) := by
  unfold Machine.levelReaches20ms
  split
  · exact onPort ..
  · exact of_restart (stuckBegins_restarts s)

/-! ## The ends of work, the timers and supervision -/

theorem completeScan : ReturnsBetween s (completeScan s) := by
  unfold Machine.completeScan
  split <;> exact of_source rfl

theorem completeBurn (flaws : List (Nat × Byte)) : ReturnsBetween s (completeBurn flaws s) := by
  unfold Machine.completeBurn
  split <;> exact of_source rfl

theorem completeCertificate (flaws : List (Nat × Byte)) : ReturnsBetween s (completeCertificate flaws s) := by
  unfold Machine.completeCertificate
  split <;> exact of_source rfl

theorem presenceSeats (n : Slot) : ReturnsBetween s (presenceSeats n s) := by
  unfold Machine.presenceSeats
  split <;> exact of_source rfl

theorem presenceLost (n : Slot) : ReturnsBetween s (presenceLost n s) := by
  unfold Machine.presenceLost
  split <;> exact of_source rfl

theorem waitExpires : ReturnsBetween s (waitExpires s) := by
  unfold Machine.waitExpires
  split
  · exact .settles rfl
  · exact refl s

theorem phase1Ends : ReturnsBetween s (phase1Ends s) := by
  unfold Machine.phase1Ends
  split_ifs <;> exact of_source rfl

theorem gapEnds : ReturnsBetween s (gapEnds s) := by
  unfold Machine.gapEnds
  split <;> exact of_source rfl

theorem phase2Ends : ReturnsBetween s (phase2Ends s) := by
  unfold Machine.phase2Ends
  split <;> exact of_source rfl

theorem deadlineRunsOut : ReturnsBetween s (deadlineRunsOut s) := by
  unfold Machine.deadlineRunsOut
  split <;> exact of_source rfl

theorem blinkLamp : ReturnsBetween s (blinkLamp s) := by
  unfold Machine.blinkLamp
  split <;> exact of_source rfl

theorem sagFilterExpires : ReturnsBetween s (sagFilterExpires s) := by
  by_cases htimed : s.rail.filter = none
  · rw [Machine.sagFilterExpires, if_neg (by simp [htimed])]
    exact refl s
  rw [sagFilterExpires_timed htimed]
  cases hrail : s.rail.state with
  | sag =>
    rw [railChanges_rises hrail]
    exact of_source rfl
  | ok =>
    have hcounted : ClockKept s (sagCounted s) := { ClockKept.refl s with }
    rw [railChanges_sags hrail, signalSag_eq]
    split
    · exact after hcounted (enterVoid _ .rail)
    · exact of_source rfl

/-- A clock loss leaves the source on BACKUP (R147). -/
theorem clockLost : ReturnsBetween s (clockLost s) := by
  unfold Machine.clockLost
  split
  · rw [loseClock_eq]
    exact .stays fun _ => rfl
  · exact refl s

/-- A clean run's end returns the source at once, or leaves the return pending (R148). -/
theorem returnTimerExpires : ReturnsBetween s (returnTimerExpires s) := by
  unfold Machine.returnTimerExpires
  split_ifs with htimed honce
  · exact .settles honce
  · exact of_source rfl
  · exact refl s

end

/-! ## The step -/

section
variable {s t : State}

theorem of_next {f : State → State} (hf : ReturnsBetween s (f s))
    (hx : (.next (unlessHeld f s) : Host.Outcome State Fault Refusal) = .next t) : ReturnsBetween s t := by
  cases hx
  exact unlessHeld_keeps (P := ReturnsBetween s) (fun _ => hf) (refl s)

theorem of_exec (c : Instr) (hx : exec c s = .next t) : ReturnsBetween s t := by
  cases c
  case startMark | noiseEvent | breakEnd | stuckClear | stuckWaitRestart | bitPulse | endOfFrame
      | dominantEdgeAfterReply => exact of_next (onPort ..) hx
  case endOfData => exact of_next (endOfData s) hx
  case lineBreak => exact of_next (of_restart (levelReaches300_restarts s)) hx
  case stuck => exact of_next (levelReaches20ms s) hx
  case replyStart => exact of_next (of_restart (replyStarts_restarts s _)) hx
  case replyCollision => exact of_next (of_restart (replyCutOff_restarts s)) hx
  case replyComplete => exact of_next (of_restart (replyCompletes_restarts s _)) hx
  case scanComplete => exact of_next (completeScan s) hx
  case burnComplete => exact of_next (completeBurn s _) hx
  case certWriteComplete => exact of_next (completeCertificate s _) hx
  case presenceSeated => exact of_next (presenceSeats s _) hx
  case presenceLoss => exact of_next (presenceLost s _) hx
  case planEnd => exact of_next (planEnds s) hx
  case waitExpiry => exact of_next (waitExpires s) hx
  case announceEnd => exact of_next (announceEnds s) hx
  case phase1End => exact of_next (phase1Ends s) hx
  case gapEnd => exact of_next (gapEnds s) hx
  case phase2End => exact of_next (phase2Ends s) hx
  case reportDeadline => exact of_next (deadlineRunsOut s) hx
  case graceEnd => exact of_next (graceEnds s) hx
  case voidSettleEnd => exact of_next (voidSettles s) hx
  case sagFilterExpiry => exact of_next (sagFilterExpires s) hx
  case refclkEdge => exact of_next (f := refclkEdge) (of_source rfl) hx
  case clockLoss => exact of_next (clockLost s) hx
  case returnTimerExpiry => exact of_next (returnTimerExpires s) hx
  case lampBlink => exact of_next (blinkLamp s) hx
  case presenceDeparture | rsenseDeparture =>
    cases hx
    split <;> exact of_source rfl
  case powerReset =>
    cases hx
    exact powerResets ..
  case nresetAsserted =>
    cases hx
    exact nresetFalls s
  case pinReset =>
    cases hx
    exact .settles rfl
  all_goals exact of_next (deliver s _ _ _) hx

/-- Every step, of a command or of an idle microsecond. -/
theorem of_step (h : step s = .next t) : ReturnsBetween s t := by
  cases hp : s.pending with
  | nil =>
    rw [step_nil s hp] at h
    exact of_next (f := tick) (of_source rfl) h
  | cons c rest =>
    rw [step_cons c rest s hp] at h
    have hqueue : ClockKept s { s with pending := rest } := { ClockKept.refl s with }
    exact after hqueue (of_exec c h)

end

end ReturnsBetween

/-- Settles O59: the step that returns the source starts a plan build or ends where a return is applied at once. -/
theorem returnsOnlyBetweenEpochs : Obligations.ReturnsOnlyBetweenEpochs := by
  intro s t hstep hbackup hreference
  cases ReturnsBetween.of_step hstep with
  | stays h => exact absurd ((h hbackup).symm.trans hreference) (by decide)
  | builds hstate hbefore hnumber => exact .inl ⟨hstate, hbefore, hnumber⟩
  | settles h =>
    right
    obtain ⟨hrunning, hpaused⟩ := (CampaignState.returnsAtOnce_iff _).1 h
    cases hc : t.campaign.state <;> simp_all

end Sys2Proof.Machine
end

section
/-! STATUS and IDENT (R34, R160): open to every address with a node record, they answer and change nothing. -/

namespace Sys2Proof.Machine

section
variable {s t : State} {header page : Byte} {payload : List Byte} {who : Sender} {answer : Answer}

/-! ## The answers -/

theorem answerStatus_malformed (h : payload.length ≠ 1) : answerStatus payload s = (s, .refusal .malformed) := by
  unfold answerStatus
  split
  · simp at h
  · rfl

theorem answerStatus_range (h : 2 < page.toNat) : answerStatus [page] s = (s, .refusal .range) := by
  have hzero : page ≠ 0#8 := by rintro rfl; simp at h
  have hone : page ≠ 1#8 := by rintro rfl; simp at h
  have htwo : page ≠ 2#8 := by rintro rfl; simp at h
  simp [answerStatus, hzero, hone, htwo]

theorem answerStatus_campaign : answerStatus [0#8] s = (s, ⟨.ok, statusPage0 s⟩) := by
  simp [answerStatus]

theorem answerStatus_supervision : answerStatus [1#8] s = (s, ⟨.ok, statusPage1 s⟩) := by
  simp [answerStatus]

theorem answerStatus_store : answerStatus [2#8] s = (s, ⟨.ok, statusPage2 s⟩) := by
  simp [answerStatus]

theorem answerIdent_malformed (h : payload ≠ []) : answerIdent payload s = (s, .refusal .malformed) := if_pos h

theorem answerIdent_nil : answerIdent [] s = (s, ⟨.ok, identBytes s.nv⟩) := if_neg (by simp)

/-- The codes of R179 as bytes: vendor 0A6Dh, part 2410h, revision 1. -/
theorem identBytes_eq (nv : NvStore) : identBytes nv
    = [0x0A#8, 0x6D#8, 0x24#8, 0x10#8, 1#8,
        byteOf (nv.gens.toList.countP (·.begun)), byteOf (nv.gens.toList.countP (·.done)),
        byteOf (nv.certs.toList.countP (·.begun)), byteOf (nv.certs.toList.countP (·.done))] := rfl

/-! ## The rows -/

/-- A kind open to every address with a record passes the acceptance tests: its owner answers (R30, step 1). -/
theorem exec_open (k : RequestKind) (hk : openToAll k = true) (hs : s.held = none)
    (hw : senderOf header = some who) (hp : payload.length ≤ 30)
    (ha : ownerAnswers k who payload (heard header k.byte payload s) = (t, answer)) :
    exec (requestRow k header payload) s = .next (replied header answer t) := by
  have h := exec_request_owned hs hp hw (acceptance_open hk)
  rwa [ha] at h

end

/-- Settles O14: STATUS by its length and page, IDENT by its length. -/
theorem openReadsAnswer : Obligations.OpenReadsAnswer := by
  constructor
  · intro header who s hs hw now
    have run {payload : List Byte} {t : State} {answer : Answer} (hp : payload.length ≤ 30)
        (ha : answerStatus payload (heard header 0x03#8 payload s) = (t, answer)) :
        exec (.status header payload) s = .next (replied header answer t) :=
      exec_open .status rfl hs hw hp ha
    exact ⟨run (by simp) answerStatus_campaign, run (by simp) answerStatus_supervision,
      run (by simp) answerStatus_store, fun _ hpage => run (by simp) (answerStatus_range hpage),
      fun _ hp hlen => run hp (answerStatus_malformed hlen)⟩
  · intro header who s hs hw
    have run {payload : List Byte} {t : State} {answer : Answer} (hp : payload.length ≤ 30)
        (ha : answerIdent payload (heard header 0x04#8 payload s) = (t, answer)) :
        exec (.ident header payload) s = .next (replied header answer t) :=
      exec_open .ident rfl hs hw hp ha
    refine ⟨?_, fun _ hp hne => run hp (answerIdent_malformed hne)⟩
    have hident := run (by simp) answerIdent_nil
    rwa [identBytes_eq] at hident

end Sys2Proof.Machine
end

section
/-! MAP_BURN and CERT_COMMIT: what each takes, and what its write leaves when it completes (R164, R167 to R171). -/

namespace Sys2Proof.Machine

/-! ## The slots of the store -/

section
variable {slots : Table NvSlot 4} {x : NvSlot} {n : NvIx} {flaws : List (Nat × Byte)} {bytes : List Byte}

theorem isFree_eq_false (h : ¬(x.begun = false ∧ x.done = false)) : x.isFree = false :=
  Bool.eq_false_iff.2 (mt (isFree_iff x).1 h)

theorem lowestFree_of_none_free (h : ∀ n, ¬((slots.at n).begun = false ∧ (slots.at n).done = false)) :
    lowestFree slots = none :=
  lowestFree_none fun n => isFree_eq_false (h n)

theorem lowestFree_of_free (h : (slots.at n).begun = false ∧ (slots.at n).done = false)
    (hbelow : ∀ m < n, ¬((slots.at m).begun = false ∧ (slots.at m).done = false)) : lowestFree slots = some n :=
  lowestFree_some ((isFree_iff _).2 h) fun m hm => isFree_eq_false (hbelow m hm)

theorem verifies_of_good (hback : readBack flaws bytes = bytes) (hintact : intact bytes = true) :
    verifies flaws bytes = true := by
  simp [verifies_eq, hback, hintact]

theorem verifies_of_flawed (hback : readBack flaws bytes ≠ bytes) : verifies flaws bytes = false := by
  simp [verifies_eq, hback]

/-- A good verify sets the done mark over the bytes as written (R164, R169). -/
theorem NvSlot.written_of_good (x : NvSlot) (hback : readBack flaws bytes = bytes) (hintact : intact bytes = true) :
    x.written flaws bytes = { x with body := bytes, done := true } := by
  rw [NvSlot.written, verifies_of_good hback hintact, hback, Bool.or_true]

/-- A bad verify leaves the marks: a slot begun and not done stays SPOILED (R164, R169). -/
theorem NvSlot.written_of_flawed (x : NvSlot) (hback : readBack flaws bytes ≠ bytes) :
    x.written flaws bytes = { x with body := readBack flaws bytes } := by
  rw [NvSlot.written, verifies_of_flawed hback, Bool.or_false]

end

/-! ## MAP_BURN -/

section
variable {s : State} {payload : List Byte} {n : NvIx}

theorem answerMapBurn_malformed (h : payload ≠ []) : answerMapBurn payload s = (s, .refusal .malformed) := if_pos h

theorem answerMapBurn_barred (h : ¬(s.map.status = .valid ∧ s.campaign.state.live = false)) :
    answerMapBurn [] s = (s, .refusal .state) := by
  rw [← settled_iff_not_live] at h
  simp [answerMapBurn, h]

section
variable (hvalid : s.map.status = .valid) (hlive : s.campaign.state.live = false)
include hvalid hlive

theorem answerMapBurn_busy (hbusy : s.nv.state ≠ .idle) : answerMapBurn [] s = (s, .refusal .busy) := by
  simp [answerMapBurn, settled_iff_not_live, hvalid, hlive, hbusy]

theorem answerMapBurn_full (hidle : s.nv.state = .idle) (hfull : lowestFree s.nv.gens = none) :
    answerMapBurn [] s = (s, .refusal .full) := by
  simp [answerMapBurn, settled_iff_not_live, hvalid, hlive, hidle, hfull]

theorem answerMapBurn_takes (hidle : s.nv.state = .idle) (hfree : lowestFree s.nv.gens = some n) :
    answerMapBurn [] s = (beginBurn n s, ⟨.accepted, [byteOf n, byteOf (n.val + 1)]⟩) := by
  simp [answerMapBurn, settled_iff_not_live, hvalid, hlive, hidle, hfree]

end

end

/-! ## CERT_COMMIT -/

section
variable {s : State} {tag : List Byte} {c : NvIx}

theorem answerCertCommit_malformed (h : tag.length ≠ 8) : answerCertCommit tag s = (s, .refusal .malformed) :=
  if_pos h

section
variable (htag : tag.length = 8)
include htag

theorem answerCertCommit_barred
    (h : ¬(s.campaign.state = .done ∧ s.campaign.certified = false ∧ s.campaign.origin ≠ none)) :
    answerCertCommit tag s = (s, .refusal .state) := by
  rw [← Option.isSome_iff_ne_none] at h
  rw [answerCertCommit, if_neg (not_not.2 htag), if_pos h]

variable (hdone : s.campaign.state = .done) (hnot : s.campaign.certified = false) (horigin : s.campaign.origin ≠ none)
include hdone hnot horigin

theorem answerCertCommit_busy (hbusy : s.nv.state ≠ .idle) : answerCertCommit tag s = (s, .refusal .busy) := by
  simp [answerCertCommit, Option.isSome_iff_ne_none, htag, hdone, hnot, horigin, hbusy]

theorem answerCertCommit_full (hidle : s.nv.state = .idle) (hfull : lowestFree s.nv.certs = none) :
    answerCertCommit tag s = (s, .refusal .full) := by
  simp [answerCertCommit, Option.isSome_iff_ne_none, htag, hdone, hnot, horigin, hidle, hfull]

theorem answerCertCommit_takes (hidle : s.nv.state = .idle) (hfree : lowestFree s.nv.certs = some c) :
    answerCertCommit tag s = (beginCertificate c tag s, ⟨.accepted, [byteOf c]⟩) := by
  simp [answerCertCommit, Option.isSome_iff_ne_none, htag, hdone, hnot, horigin, hidle, hfree]

end

end

/-! ## The requests, armed -/

/-- A protected request of the ACTIVE station, under an arm of its kind, by what its owner answers (R30, R31). -/
theorem exec_station_armed {k : RequestKind} {header : Byte} {payload : List Byte} {s t : State} {a : Answer}
    (hmay : stationMay header s) (hp : payload.length ≤ 30) (hk : isProtected k = true)
    (harm : s.port.arm.map ArmKind.byte = some k.byte)
    (ha : ownerAnswers k .station payload (heard header k.byte payload s) = (t, a)) :
    exec (requestRow k header payload) s = .next (replied header a t) := by
  have hfetch : k ≠ .fetch := by rintro rfl; cases hk
  have hreport : k ≠ .report := by rintro rfl; cases hk
  rw [exec_station hmay hp hfetch hreport fun _ => harm, ha]

/-- Settles O46: the answers of the two requests, test by test, under their arms. -/
theorem storeTakesWrites : Obligations.StoreTakesWrites := by
  intro header s hmay isFree
  have burn {payload : List Byte} {t : State} {a : Answer} (harm : s.port.arm = some .mapBurn)
      (hp : payload.length ≤ 30) (ha : answerMapBurn payload (heard header 0x23#8 payload s) = (t, a)) :
      exec (.mapBurn header payload) s = .next (replied header a t) :=
    exec_station_armed (k := .mapBurn) hmay hp rfl (congrArg _ harm) ha
  have commit {tag : List Byte} {t : State} {a : Answer} (harm : s.port.arm = some .certCommit)
      (hp : tag.length ≤ 30) (ha : answerCertCommit tag (heard header 0x60#8 tag s) = (t, a)) :
      exec (.certCommit header tag) s = .next (replied header a t) :=
    exec_station_armed (k := .certCommit) hmay hp rfl (congrArg _ harm) ha
  refine ⟨fun harm => ⟨?burnMalformed, ?burnState⟩, fun harm tag hp => ⟨?certMalformed, ?certState⟩,
    fun harm hvalid hlive => ⟨?burnBusy, fun hidle => ⟨?burnFull, ?burnTakes⟩⟩,
    fun tag htag harm hdone hnot horigin => ?certificate⟩
  case burnMalformed => exact fun payload hp hne => burn harm hp (answerMapBurn_malformed hne)
  case burnState => exact fun hbar => burn harm (Nat.zero_le _) (answerMapBurn_barred hbar)
  case certMalformed => exact fun hlen => commit harm hp (answerCertCommit_malformed hlen)
  case certState => exact fun htag hbar => commit harm hp (answerCertCommit_barred htag hbar)
  case burnBusy => exact fun hbusy => burn harm (Nat.zero_le _) (answerMapBurn_busy hvalid hlive hbusy)
  case burnFull =>
    exact fun hfull => burn harm (Nat.zero_le _) (answerMapBurn_full hvalid hlive hidle (lowestFree_of_none_free hfull))
  case burnTakes =>
    exact fun n hfree hbelow =>
      burn harm (Nat.zero_le _) (answerMapBurn_takes hvalid hlive hidle (lowestFree_of_free hfree hbelow))
  case certificate =>
    have hp : tag.length ≤ 30 := by omega
    refine ⟨fun hbusy => commit harm hp (answerCertCommit_busy htag hdone hnot horigin hbusy),
      fun hidle => ⟨fun hfull => ?full, fun c hfree hbelow => ?takes⟩⟩
    case full =>
      exact commit harm hp (answerCertCommit_full htag hdone hnot horigin hidle (lowestFree_of_none_free hfull))
    case takes =>
      exact commit harm hp (answerCertCommit_takes htag hdone hnot horigin hidle (lowestFree_of_free hfree hbelow))

/-! ## The writes complete -/

section
variable {s : State} {w : NvWrite} {flaws : List (Nat × Byte)}

theorem exec_burnComplete (hheld : s.held = none) (hburning : s.nv.state = .burning) (hw : s.nv.write = some w) :
    exec (.burnComplete flaws) s = .next (burnCompletes flaws w s) := by
  have hrow : exec (.burnComplete flaws) s = .next (completeBurn flaws s) := congrArg _ (unlessHeld_of_none hheld)
  simp only [hrow, completeBurn, hburning, hw]

theorem exec_certWriteComplete (hheld : s.held = none) (hwriting : s.nv.state = .writingCert)
    (hw : s.nv.write = some w) : exec (.certWriteComplete flaws) s = .next (certificateCompletes flaws w s) := by
  have hrow : exec (.certWriteComplete flaws) s = .next (completeCertificate flaws s) :=
    congrArg _ (unlessHeld_of_none hheld)
  simp only [hrow, completeCertificate, hwriting, hw]

end

/-- Settles O47: the completion in flight, by what reads back. -/
theorem storeWritesComplete : Obligations.StoreWritesComplete := by
  intro flaws w s hheld hw good
  refine ⟨fun hburning _ => ?burn, fun hwriting _ => ?certificate⟩
  case burn =>
    rw [exec_burnComplete hheld hburning hw, burnCompletes]
    refine ⟨fun hgood hintact => ?_, fun hbad => ?_⟩
    · rw [verifies_of_good hgood hintact, ← NvSlot.written_of_good _ hgood hintact]
      rfl
    · rw [verifies_of_flawed hbad, ← NvSlot.written_of_flawed _ hbad]
      rfl
  case certificate =>
    rw [exec_certWriteComplete hheld hwriting hw, certificateCompletes]
    refine ⟨fun hgood hintact => ?_, fun hbad => ?_⟩
    · simp only [verifies_of_good hgood hintact, Bool.or_true, ← NvSlot.written_of_good _ hgood hintact]
      rfl
    · simp only [verifies_of_flawed hbad, Bool.or_false, ← NvSlot.written_of_flawed _ hbad]
      rfl

end Sys2Proof.Machine
end

section
/-! The queue of waiting commands and the count of free draws belong to `step` (log entries 1, 2, 22): it takes the
front command and, on an empty queue, lets a microsecond pass and queues the events due; no command changes either. -/

namespace Sys2Proof.Machine

/-! ## The step -/

/-- Settles O1: the step on a queue that is not empty. -/
theorem stepTakesFront : Obligations.StepTakesFront := by
  intro c rest s
  exact step_cons c rest { s with pending := c :: rest } rfl

/-- Settles O3: the idle step is the microsecond that passes, and what it adds to an empty queue is the arrangement
of the events due. -/
theorem idleStepQueuesDueEvents : Obligations.IdleStepQueuesDueEvents := by
  intro s hempty hheld
  have hstep : step s = .next (tick s) := by rw [step_nil s hempty, idleStep, unlessHeld_of_none hheld]
  have hqueue : (tick s).pending = arrange s.freeDraws (eventsNow s) := by simp [tick, hempty]
  exact ⟨tick s, hstep, hqueue ▸ arrange_perm .., rfl, rfl⟩

/-! ## What keeps the queue and the draws -/

/-- From `s` to `t` the queue of waiting commands and the count of free draws have not changed. -/
structure QueueKept (s t : State) : Prop where
  pending : t.pending = s.pending
  freeDraws : t.freeDraws = s.freeDraws

namespace QueueKept

section
variable {s t u : State}

theorem trans (h : QueueKept s t) (h' : QueueKept t u) : QueueKept s u where
  pending := h'.pending.trans h.pending
  freeDraws := h'.freeDraws.trans h.freeDraws

theorem of_cycleKept (h : CycleKept s t) : QueueKept s t := ⟨h.pending, h.freeDraws⟩

/-- An operation that acts under a condition alone keeps the queue if its action does. -/
theorem ite {c : Prop} [Decidable c] (h : QueueKept s t) : QueueKept s (if c then t else s) := by
  split
  · exact h
  · exact ⟨rfl, rfl⟩

end

section
variable (s : State)

theorem refl : QueueKept s s := ⟨rfl, rfl⟩

theorem onPort (f : Port → Port) : QueueKept s (s.onPort f) := ⟨rfl, rfl⟩

/-! ## The signals to the campaign -/

theorem present (p : Presentation) : QueueKept s (present p s) := by
  rw [present_frame]
  exact ⟨rfl, rfl⟩

theorem stationChange : QueueKept s (stationChange s) := by
  rw [stationChange_frame]
  exact ⟨rfl, rfl⟩

theorem lineFault : QueueKept s (lineFault s) := by
  rw [lineFault_frame]
  exact ⟨rfl, rfl⟩

theorem transitionIntoActive : QueueKept s (transitionIntoActive s) := by
  rw [transitionIntoActive_frame]
  exact ⟨rfl, rfl⟩

theorem mapEdit : QueueKept s (mapEdit s) := ite ⟨rfl, rfl⟩

theorem enterVoid (cause : VoidCause) : QueueKept s (enterVoid cause s) :=
  of_cycleKept (enterVoid_legsKept cause s).toCycleKept

theorem closeEpoch (normal : Bool) : QueueKept s (closeEpoch normal s) :=
  of_cycleKept (closeEpoch_closed normal s).toCycleKept

/-! ## The ends of an epoch -/

theorem planEnds : QueueKept s (planEnds s) := by
  have hmade : QueueKept s (makePlan s) := ⟨rfl, rfl⟩
  refine ite (hmade.trans ?_)
  rcases decidePlan_cases (makePlan s) with ⟨_, e⟩ | ⟨_, _, e⟩ | ⟨_, _, _, e⟩ | ⟨_, _, _, e⟩ <;> rw [e]
  · exact enterVoid _ .line
  · rcases emptyPlan_cases (makePlan s) with ⟨_, e⟩ | ⟨_, _, e⟩ | ⟨_, _, e⟩ <;> rw [e] <;> exact ⟨rfl, rfl⟩
  · exact ⟨rfl, rfl⟩
  · exact ⟨rfl, rfl⟩

theorem announceEnds : QueueKept s (announceEnds s) :=
  ite (of_cycleKept ((withdraw_cycleKept s).trans (afterWithdrawal_legsKept _).toCycleKept))

theorem phase1Ends : QueueKept s (phase1Ends s) := by
  unfold Machine.phase1Ends
  split_ifs <;> exact ⟨rfl, rfl⟩

theorem gapEnds : QueueKept s (gapEnds s) := ite ⟨rfl, rfl⟩

theorem phase2Ends : QueueKept s (phase2Ends s) := ite ⟨rfl, rfl⟩

theorem deadlineRunsOut : QueueKept s (deadlineRunsOut s) := ite ⟨rfl, rfl⟩

theorem graceEnds : QueueKept s (graceEnds s) :=
  ite ((of_cycleKept (settleGrace_cycleKept s)).trans (closeEpoch _ true))

theorem voidSettles : QueueKept s (voidSettles s) := by
  have hsettled : QueueKept s (settleVoid s) := ⟨rfl, rfl⟩
  refine ite (hsettled.trans ?_)
  rcases decideAfterSettle_cases (settleVoid s) with ⟨_, e⟩ | ⟨_, _, e⟩ <;> rw [e] <;> exact ⟨rfl, rfl⟩

/-! ## The report -/

theorem completeReport (n : Slot) : QueueKept s (completeReport n s) := by
  refine List.foldlRecOn (motive := QueueKept s) _ _ ⟨rfl, rfl⟩ fun u hu y _ => hu.trans ?_
  rw [gradeTrial_frame]
  exact ⟨rfl, rfl⟩

theorem acceptRun (n : Slot) (values : List EntryValue) : QueueKept s (acceptRun n values s) := by
  have hstored : QueueKept s (storeRun n values s) := ⟨rfl, rfl⟩
  unfold Machine.acceptRun
  split
  · exact (hstored.trans (completeReport _ n)).trans (ite (closeEpoch _ true))
  · exact hstored

/-! ## The node table -/

theorem enrolProbe (n : Slot) (channels : Nat) : QueueKept s (enrolProbe n channels s) := by
  have hset (r : NodeRecord) : QueueKept s (setProbe n r s) := ⟨rfl, rfl⟩
  unfold Machine.enrolProbe
  split
  · exact hset _
  · exact (hset _).trans (transitionIntoActive _)

theorem enrolStation (how : Admission) (identity : Nat) : QueueKept s (enrolStation how identity s) := by
  have hadmitted : QueueKept s (admitStation identity s) := ⟨rfl, rfl⟩
  cases how with
  | fresh => exact hadmitted.trans (transitionIntoActive _)
  | again => exact hadmitted
  | takeover => exact hadmitted.trans (stationChange _)

theorem stationLeaves : QueueKept s (stationLeaves s) := by
  unfold Machine.stationLeaves
  rw [stationChange_frame]
  exact ⟨rfl, rfl⟩

/-! ## The requests -/

theorem ownerAnswers (k : RequestKind) (who : Sender) (payload : List Byte) :
    QueueKept s (ownerAnswers k who payload s).1 := by
  cases k with
  | enrol =>
    rcases answerEnrol_state payload s who with e | ⟨n, channels, _, e⟩ | ⟨how, identity, _, e⟩ <;>
      rw [Machine.ownerAnswers, e]
    · exact refl s
    · exact enrolProbe s n channels
    · exact enrolStation s how identity
  | leave =>
    rcases answerLeave_state payload s who with e | ⟨n, _, e⟩ | ⟨_, e⟩ <;> rw [Machine.ownerAnswers, e]
    · exact refl s
    · exact ⟨rfl, rfl⟩
    · exact stationLeaves s
  | status => rw [Machine.ownerAnswers, answerStatus_state]; exact refl s
  | ident => rw [Machine.ownerAnswers, answerIdent_state]; exact refl s
  | arm =>
    rcases answerArm_state payload s with e | ⟨_, e⟩ <;> rw [Machine.ownerAnswers, e] <;> exact ⟨rfl, rfl⟩
  | paramSet =>
    rcases answerParamSet_state payload s with e | ⟨_, _, _, _, _, e⟩ <;>
      rw [Machine.ownerAnswers, e] <;> exact ⟨rfl, rfl⟩
  | paramGet => rw [Machine.ownerAnswers, answerParamGet_state]; exact refl s
  | mapWrite =>
    rcases answerMapWrite_state payload s with e | ⟨start, records, _, _, e⟩ <;> rw [Machine.ownerAnswers, e]
    · exact refl s
    · have hedited : QueueKept s (s.onMap fun m => m.edited start records) := ⟨rfl, rfl⟩
      exact hedited.trans (mapEdit _)
  | mapRead => rw [Machine.ownerAnswers, answerMapRead_state]; exact refl s
  | mapValidate =>
    rcases answerMapValidate_state payload s with e | ⟨_, _, e⟩ <;>
      rw [Machine.ownerAnswers, e] <;> exact ⟨rfl, rfl⟩
  | mapBurn =>
    rcases answerMapBurn_state payload s with e | ⟨_, _, _, _, _, e⟩ <;>
      rw [Machine.ownerAnswers, e] <;> exact ⟨rfl, rfl⟩
  | campaignStart =>
    rcases answerStart_state payload s with e | ⟨_, _, e⟩ <;> rw [Machine.ownerAnswers, e] <;> exact ⟨rfl, rfl⟩
  | campaignPause =>
    rcases answerPause_state payload s with e | ⟨_, e⟩ | ⟨_, e⟩ <;>
      rw [Machine.ownerAnswers, e] <;> exact ⟨rfl, rfl⟩
  | campaignResume =>
    rcases answerResume_state payload s with e | ⟨_, e⟩ <;> rw [Machine.ownerAnswers, e] <;> exact ⟨rfl, rfl⟩
  | campaignAbort =>
    rcases answerAbort_state payload s with e | ⟨_, e⟩ <;> rw [Machine.ownerAnswers, e] <;> exact ⟨rfl, rfl⟩
  | fetch =>
    cases who with
    | probe n =>
      rcases answerFetch_state payload s n with e | ⟨_, e⟩ <;>
        rw [Machine.ownerAnswers, probeOnly, e] <;> exact ⟨rfl, rfl⟩
    | station => exact refl s
  | report =>
    cases who with
    | probe n =>
      rcases answerReport_state payload s n with e | ⟨_, _, values, _, _, _, e⟩ <;>
        rw [Machine.ownerAnswers, probeOnly, e]
      · exact refl s
      · exact acceptRun s n values
    | station => exact refl s
  | resultRead => rw [Machine.ownerAnswers, answerResultRead_state]; exact refl s
  | findingRead => rw [Machine.ownerAnswers, answerFindingRead_state]; exact refl s
  | certCommit =>
    rcases answerCertCommit_state payload s with e | ⟨_, _, _, _, e⟩ <;>
      rw [Machine.ownerAnswers, e] <;> exact ⟨rfl, rfl⟩
  | certRead => rw [Machine.ownerAnswers, answerCertRead_state]; exact refl s
  | restart =>
    rcases answerRestart_state payload s with e | ⟨_, e⟩ <;> rw [Machine.ownerAnswers, e] <;> exact ⟨rfl, rfl⟩

theorem takeRequest (header kind : Byte) (payload : List Byte) :
    QueueKept s (takeRequest header kind payload s) := by
  have hheard : QueueKept s (presentToArm s) := onPort ..
  have hreplied (a : Answer) (t : State) : QueueKept t (replied header a t) := ⟨rfl, rfl⟩
  rw [Machine.takeRequest, ← Prod.mk.eta (p := decideRequest _ _ _ _ _), reply_eq_replied]
  refine (hheard.trans ?_).trans (hreplied ..)
  rcases decideRequest_state header kind (marksArmed s.port.arm header kind) payload (presentToArm s) with
    e | ⟨k, who, _, _, _, e⟩ <;> rw [e]
  · exact refl _
  · exact ownerAnswers _ k who payload

theorem deliver (header kind : Byte) (payload : List Byte) : QueueKept s (deliver header kind payload s) := by
  unfold Machine.deliver
  split
  · exact (onPort ..).trans (takeRequest ..)
  · exact onPort ..

/-! ## The line and the reply -/

theorem endOfData : QueueKept s (endOfData s) := by
  unfold Machine.endOfData testFrame
  split_ifs
  · exact takeRequest ..
  · exact onPort ..
  · exact onPort ..
  · exact refl s

theorem afterReply (dominant : Bool) : QueueKept s (afterReply dominant s) := ite ⟨rfl, rfl⟩

theorem replyCollides : QueueKept s (replyCollides s) := (onPort ..).trans (afterReply ..)

theorem replyStarts (dominant : Bool) : QueueKept s (replyStarts dominant s) := by
  unfold Machine.replyStarts
  split_ifs
  · exact replyCollides s
  · exact onPort ..
  · exact refl s

theorem replyCutOff : QueueKept s (replyCutOff s) := ite (replyCollides s)

theorem replyCompletes (dominant : Bool) : QueueKept s (replyCompletes dominant s) :=
  ite ((onPort ..).trans (afterReply ..))

theorem levelReaches300 : QueueKept s (levelReaches300 s) := by
  unfold Machine.levelReaches300
  split
  case h_4 => exact refl s
  case h_5 => exact onPort ..
  all_goals exact (replyCutOff s).trans (onPort ..)

theorem levelReaches20ms : QueueKept s (levelReaches20ms s) := by
  unfold Machine.levelReaches20ms stuckBegins
  split
  · exact onPort ..
  · exact (((levelReaches300 s).trans (onPort ..)).trans (lineFault _)).trans (present ..)

/-! ## The ends of work and supervision -/

theorem completeScan : QueueKept s (completeScan s) := ite ⟨rfl, rfl⟩

theorem completeBurn (flaws : List (Nat × Byte)) : QueueKept s (completeBurn flaws s) := by
  unfold Machine.completeBurn
  split <;> exact ⟨rfl, rfl⟩

theorem completeCertificate (flaws : List (Nat × Byte)) : QueueKept s (completeCertificate flaws s) := by
  unfold Machine.completeCertificate
  split <;> exact ⟨rfl, rfl⟩

theorem presenceSeats (n : Slot) : QueueKept s (presenceSeats n s) := by
  unfold Machine.presenceSeats
  split <;> exact ⟨rfl, rfl⟩

theorem presenceLost (n : Slot) : QueueKept s (presenceLost n s) := ite ⟨rfl, rfl⟩

theorem waitExpires : QueueKept s (waitExpires s) := ite ⟨rfl, rfl⟩

theorem blinkLamp : QueueKept s (blinkLamp s) := ite ⟨rfl, rfl⟩

theorem sagFilterExpires : QueueKept s (sagFilterExpires s) := by
  refine ite ?_
  cases hrail : s.rail.state with
  | sag =>
    rw [railChanges_rises hrail]
    exact ⟨rfl, rfl⟩
  | ok =>
    have hcounted : QueueKept s (sagCounted s) := ⟨rfl, rfl⟩
    rw [railChanges_sags hrail, signalSag_eq]
    exact hcounted.trans (ite (enterVoid _ .rail))

theorem clockLost : QueueKept s (clockLost s) := by
  refine ite ?_
  rw [loseClock_eq]
  exact ⟨rfl, rfl⟩

theorem returnTimerExpires : QueueKept s (returnTimerExpires s) := by
  unfold Machine.returnTimerExpires
  split_ifs <;> exact ⟨rfl, rfl⟩

/-! ## The resets -/

theorem powerResets (dominant low : Bool) (decay : List NvDecay) :
    QueueKept s (powerResets dominant low decay s) := by
  unfold Machine.powerResets
  split <;> exact ⟨rfl, rfl⟩

theorem nresetFalls : QueueKept s (nresetFalls s) := by
  unfold Machine.nresetFalls
  split <;> exact ⟨rfl, rfl⟩

end

/-! ## The commands -/

section
variable {s t : State}

/-- A row that acts outside a reset alone keeps the queue if its operation does. -/
theorem of_next {f : State → State} (hf : QueueKept s (f s))
    (hx : (.next (unlessHeld f s) : Host.Outcome State Fault Refusal) = .next t) : QueueKept s t := by
  cases hx
  exact unlessHeld_keeps (P := QueueKept s) (fun _ => hf) (refl s)

theorem of_exec (c : Instr) (hx : exec c s = .next t) : QueueKept s t := by
  cases c
  case startMark | noiseEvent | breakEnd | stuckClear | stuckWaitRestart | bitPulse | endOfFrame
      | dominantEdgeAfterReply => exact of_next (onPort ..) hx
  case endOfData => exact of_next (endOfData s) hx
  case lineBreak => exact of_next (levelReaches300 s) hx
  case stuck => exact of_next (levelReaches20ms s) hx
  case replyStart => exact of_next (replyStarts s _) hx
  case replyCollision => exact of_next (replyCutOff s) hx
  case replyComplete => exact of_next (replyCompletes s _) hx
  case scanComplete => exact of_next (completeScan s) hx
  case burnComplete => exact of_next (completeBurn s _) hx
  case certWriteComplete => exact of_next (completeCertificate s _) hx
  case presenceSeated => exact of_next (presenceSeats s _) hx
  case presenceLoss => exact of_next (presenceLost s _) hx
  case planEnd => exact of_next (planEnds s) hx
  case waitExpiry => exact of_next (waitExpires s) hx
  case announceEnd => exact of_next (announceEnds s) hx
  case phase1End => exact of_next (phase1Ends s) hx
  case gapEnd => exact of_next (gapEnds s) hx
  case phase2End => exact of_next (phase2Ends s) hx
  case reportDeadline => exact of_next (deadlineRunsOut s) hx
  case graceEnd => exact of_next (graceEnds s) hx
  case voidSettleEnd => exact of_next (voidSettles s) hx
  case sagFilterExpiry => exact of_next (sagFilterExpires s) hx
  case clockLoss => exact of_next (clockLost s) hx
  case returnTimerExpiry => exact of_next (returnTimerExpires s) hx
  case lampBlink => exact of_next (blinkLamp s) hx
  case refclkEdge => exact of_next (f := refclkEdge) ⟨rfl, rfl⟩ hx
  case presenceDeparture | rsenseDeparture =>
    cases hx
    split <;> exact ⟨rfl, rfl⟩
  case powerReset =>
    cases hx
    exact powerResets ..
  case nresetAsserted =>
    cases hx
    exact nresetFalls s
  case pinReset =>
    cases hx
    exact ⟨rfl, rfl⟩
  all_goals exact of_next (deliver s _ _ _) hx

end

end QueueKept

/-- Settles O2: every row keeps the queue and the draws. -/
theorem commandsKeepQueue : Obligations.CommandsKeepQueue := by
  intro c s t hx
  obtain ⟨hpending, hdraws⟩ := QueueKept.of_exec c hx
  exact ⟨hpending, hdraws⟩

end Sys2Proof.Machine
end

section
/-! Commands out of place (log entry 4): each row whose event cannot occur in the state, with the state in which it
cannot, leaves the whole state as it is. -/

namespace Sys2Proof.Machine

/-! ## Operations that leave the state as it is -/

section
variable {s : State}

/-- A row that acts outside a reset alone does nothing where its operation does nothing. -/
theorem exec_ignored {c : Instr} {f : State → State} (hrow : exec c s = .next (unlessHeld f s)) (hf : f s = s) :
    exec c s = .next s := by
  rw [hrow]
  exact congrArg _ (unlessHeld_keeps (P := (· = s)) (fun _ => hf) rfl)

/-- A row of the line does nothing where the port stays as it is. -/
theorem exec_ignored_by_port {c : Instr} {f : Port → Port} (hrow : exec c s = .next (unlessHeld (·.onPort f) s))
    (hf : f s.port = s.port) : exec c s = .next s :=
  exec_ignored hrow (by rw [State.onPort, hf])

theorem Port.breakEnds_none {p : Port} (hb : p.line ≠ .broken) (hs : p.line ≠ .stuck) : p.breakEnds = p := by
  rw [Port.breakEnds, if_neg hb, Port.stuckWaits_other hs]

/-- On a line in BREAK, with no level of a reset being measured, a pulse changes what its class changes there. -/
theorem Port.pulse_broken {p : Port} {f : Port → Port} (hlevel : p.levelFromReset = false) (hline : p.line = .broken)
    (hf : f p = p) : p.pulse f = p := by
  rw [Port.pulse_not_replying f hlevel (by simp [hline]), hf]

theorem Port.markSeen_broken {p : Port} (h : p.line = .broken) : p.markSeen = p := by simp [Port.markSeen, h]

theorem Port.pulseSeen_broken {p : Port} (width spacing : Nat) (h : p.line = .broken) :
    p.pulseSeen width spacing = p := by
  simp [Port.pulseSeen, h]

theorem completeBurn_none (flaws : List (Nat × Byte)) (h : s.nv.state ≠ .burning) : completeBurn flaws s = s := by
  unfold completeBurn
  split
  next hburning _ => exact absurd hburning h
  next => rfl

theorem completeCertificate_none (flaws : List (Nat × Byte)) (h : s.nv.state ≠ .writingCert) :
    completeCertificate flaws s = s := by
  unfold completeCertificate
  split
  next hwriting _ => exact absurd hwriting h
  next => rfl

theorem comparatorChanges_same (s : State) : comparatorChanges s.rail.below s = s := by
  rw [comparatorChanges, State.onRail, Rail.output, if_pos rfl]

/-! ## The line and the reply -/

theorem endOfData_ignored (h : s.port.line ≠ .receiving) : exec .endOfData s = .next s :=
  exec_ignored (f := endOfData) rfl (if_neg h)

theorem breakEnd_ignored (hb : s.port.line ≠ .broken) (hs : s.port.line ≠ .stuck) : exec .breakEnd s = .next s :=
  exec_ignored_by_port rfl (Port.breakEnds_none hb hs)

theorem stuckClear_ignored (h : s.port.line ≠ .stuck) : exec .stuckClear s = .next s :=
  exec_ignored_by_port (f := Port.stuckClears) rfl (if_neg h)

theorem stuckWaitRestart_ignored (h : s.port.line ≠ .stuck) : exec .stuckWaitRestart s = .next s :=
  exec_ignored_by_port rfl (Port.stuckWaits_other h)

theorem replyStart_ignored (dominant : Bool) (h : ¬(s.port.line = .replying ∧ s.port.replyPhase = .due)) :
    exec (.replyStart dominant) s = .next s :=
  exec_ignored (f := replyStarts dominant) rfl (if_neg fun hdue => h (Port.replyDue_iff.1 hdue))

section
variable (h : ¬(s.port.line = .replying ∧ (s.port.replyPhase = .due ∨ s.port.replyPhase = .sending)))
include h

theorem replyCollision_ignored : exec .replyCollision s = .next s :=
  exec_ignored (f := replyCutOff) rfl (if_neg fun hopen => h (Port.replyOpen_iff.1 hopen))

theorem replyComplete_ignored (dominant : Bool) : exec (.replyComplete dominant) s = .next s :=
  exec_ignored (f := replyCompletes dominant) rfl (if_neg fun hopen => h (Port.replyOpen_iff.1 hopen))

end

section
variable (h : ¬(s.port.line = .replying ∧ s.port.replyPhase = .complete))
include h

theorem endOfFrame_ignored : exec .endOfFrame s = .next s :=
  exec_ignored_by_port rfl (Port.seeEdge_other fun hl hp => h ⟨hl, hp⟩)

theorem dominantEdgeAfterReply_ignored : exec .dominantEdgeAfterReply s = .next s :=
  exec_ignored_by_port rfl (Port.seeEdge_other fun hl hp => h ⟨hl, hp⟩)

end

section
variable (hlevel : s.port.levelFromReset = false) (hline : s.port.line = .broken)
include hlevel hline

theorem startMark_ignored : exec .startMark s = .next s :=
  exec_ignored_by_port rfl (Port.pulse_broken hlevel hline (Port.markSeen_broken hline))

theorem bitPulse_ignored (width spacing : Nat) : exec (.bitPulse width spacing) s = .next s :=
  exec_ignored_by_port rfl (Port.pulse_broken hlevel hline (Port.pulseSeen_broken width spacing hline))

end

/-! ## The ends of work and the presence filters -/

theorem scanComplete_ignored (h : s.map.status ≠ .checking) : exec .scanComplete s = .next s :=
  exec_ignored (f := completeScan) rfl (if_neg h)

theorem burnComplete_ignored (h : s.nv.state ≠ .burning) (flaws : List (Nat × Byte)) :
    exec (.burnComplete flaws) s = .next s :=
  exec_ignored rfl (completeBurn_none flaws h)

theorem certWriteComplete_ignored (h : s.nv.state ≠ .writingCert) (flaws : List (Nat × Byte)) :
    exec (.certWriteComplete flaws) s = .next s :=
  exec_ignored rfl (completeCertificate_none flaws h)

theorem presenceSeated_ignored {n : Slot} (h : (s.nodes.presence.at n).seated = true) :
    exec (.presenceSeated n) s = .next s :=
  exec_ignored (f := presenceSeats n) rfl (if_pos h)

theorem presenceLoss_ignored {n : Slot} (h : (s.nodes.presence.at n).seated = false) :
    exec (.presenceLoss n) s = .next s :=
  exec_ignored (f := presenceLost n) rfl (if_neg (by simp [h]))

/-! ## The timers of the campaign and of the epoch -/

theorem waitExpiry_ignored (h : s.campaign.state ≠ .waiting) : exec .waitExpiry s = .next s :=
  exec_ignored (f := waitExpires) rfl (if_neg h)

theorem lampBlink_ignored (h : s.campaign.state ≠ .paused) : exec .lampBlink s = .next s :=
  exec_ignored (f := blinkLamp) rfl (if_neg h)

theorem planEnd_ignored (h : s.epoch.state ≠ .planning) : exec .planEnd s = .next s :=
  exec_ignored (f := planEnds) rfl (if_neg h)

theorem announceEnd_ignored (h : s.epoch.state ≠ .announce) : exec .announceEnd s = .next s :=
  exec_ignored (f := announceEnds) rfl (if_neg h)

theorem phase1End_ignored (h : s.epoch.state ≠ .phase1) : exec .phase1End s = .next s :=
  exec_ignored (f := phase1Ends) rfl (if_neg h)

theorem gapEnd_ignored (h : s.epoch.state ≠ .gap) : exec .gapEnd s = .next s :=
  exec_ignored (f := gapEnds) rfl (if_neg h)

theorem phase2End_ignored (h : s.epoch.state ≠ .phase2) : exec .phase2End s = .next s :=
  exec_ignored (f := phase2Ends) rfl (if_neg h)

theorem reportDeadline_ignored (h : s.epoch.state ≠ .collecting) : exec .reportDeadline s = .next s :=
  exec_ignored (f := deadlineRunsOut) rfl (if_neg h)

theorem graceEnd_ignored (h : s.epoch.state ≠ .grace) : exec .graceEnd s = .next s :=
  exec_ignored (f := graceEnds) rfl (if_neg h)

theorem voidSettleEnd_ignored (h : s.epoch.state ≠ .void) : exec .voidSettleEnd s = .next s :=
  exec_ignored (f := voidSettles) rfl (if_neg h)

/-! ## Supervision -/

theorem rsenseDeparture_ignored (hheld : s.held = none) : exec (.rsenseDeparture s.rail.below) s = .next s := by
  rw [exec_rsenseDeparture hheld, comparatorChanges_same]

theorem sagFilterExpiry_ignored (h : s.rail.filter = none) : exec .sagFilterExpiry s = .next s :=
  exec_ignored (f := sagFilterExpires) rfl (if_neg (by simp [h]))

theorem clockLoss_ignored (h : s.timebase.running = false) : exec .clockLoss s = .next s :=
  exec_ignored (f := clockLost) rfl (if_neg (by simp [h]))

theorem returnTimerExpiry_ignored (h : s.timebase.returnTimer = none) : exec .returnTimerExpiry s = .next s :=
  exec_ignored (f := returnTimerExpires) rfl (if_neg (by simp [h]))

end

/-- Settles O5: the rows block by block, each in the states in which its event cannot occur. -/
theorem outOfPlaceIgnored : Obligations.OutOfPlaceIgnored := by
  intro s hheld ignored
  exact ⟨endOfData_ignored, breakEnd_ignored, fun h => ⟨stuckClear_ignored h, stuckWaitRestart_ignored h⟩,
    fun h dominant => replyStart_ignored dominant h,
    fun h => ⟨replyCollision_ignored h, replyComplete_ignored h⟩,
    fun h => ⟨endOfFrame_ignored h, dominantEdgeAfterReply_ignored h⟩,
    fun hlevel hline => ⟨startMark_ignored hlevel hline, bitPulse_ignored hlevel hline⟩,
    scanComplete_ignored, burnComplete_ignored, certWriteComplete_ignored,
    fun _ => ⟨presenceSeated_ignored, presenceLoss_ignored⟩,
    waitExpiry_ignored, lampBlink_ignored, planEnd_ignored, announceEnd_ignored, phase1End_ignored, gapEnd_ignored,
    phase2End_ignored, reportDeadline_ignored, graceEnd_ignored, voidSettleEnd_ignored,
    rsenseDeparture_ignored hheld, sagFilterExpiry_ignored, clockLoss_ignored, returnTimerExpiry_ignored⟩

end Sys2Proof.Machine
end
